-- ==== Sys2Proof/Word.lean ====
section
/-!
DEFINITION. The value types of LSB323 (spec 00 R3, R5, R6; 43 R152): bytes, byte sequences, texts, pixels with and
without alpha, and the pixel-format bit. All values are unsigned; bit 0 of a byte is its least-significant bit.
-/

namespace Sys2Proof

/-- An unsigned 8-bit value: a colour channel, a carrier byte, a byte of a stream (00 R3, R6). -/
abbrev Byte := BitVec 8

/-- A finite sequence of bytes, element 0 first (00 R6). -/
abbrev Bytes := List Byte

/-- A finite sequence of Unicode scalar values (00 R6, 43 R162). Lean's `Char` is exactly a scalar value: 0 to 0x10FFFF
without the surrogates 0xD800 to 0xDFFF (92 D15). PRESUMED, log 13. -/
abbrev Text := List Char

/-- A pixel of three 8-bit channels, in the order red, green, blue (00 R6). -/
structure Pixel where
  r : Byte
  g : Byte
  b : Byte
deriving DecidableEq, Repr, Inhabited

/-- A pixel of three 8-bit channels and an 8-bit alpha (00 R6). -/
structure Pixel4 where
  r : Byte
  g : Byte
  b : Byte
  a : Byte
deriving DecidableEq, Repr, Inhabited

/-- The `FMT` bit of a command (10 R21): what an element of `SRC` holds. -/
inductive Fmt where
  /-- `FMT = 0`: a `Pixel`. -/
  | rgb
  /-- `FMT = 1`: a `Pixel4`, whose alpha is dropped on read. -/
  | rgba
deriving DecidableEq, Repr

/-- One element of the operand grid `SRC`: "a `SRC` element is a `Pixel` or a `Pixel4`" (43 R152). -/
inductive SrcElem where
  | rgb (p : Pixel)
  | rgba (p : Pixel4)
deriving DecidableEq, Repr

/-- A grid of three-channel pixels: width, height and the pixels in row-major order (00 R6, 20 R42). -/
structure Grid where
  w : Nat
  h : Nat
  px : List Pixel
deriving DecidableEq, Repr

end Sys2Proof
end

