-- ==== Sys2Proof/Machine/TestCompressor.lean ====
section
/-!
DEFINITION. The test compressor `T0` (40 R97): an escape-and-terminate code, fixed by the spec for test vectors only. Its
properties KP2 and KP4 (40 R98) are proved here because a `Compressor` carries them (Config.lean).
-/

namespace Sys2Proof

/-- How `T0.compress` writes one byte (40 R97). -/
def t0Escape (b : Byte) : Bytes :=
  if b = 0x00 then [0x01, 0x01] else if b = 0x01 then [0x01, 0x02] else [b]

/-- `T0.compress` (40 R97): every byte escaped, then the terminator 0x00. -/
def t0Compress (x : Bytes) : Bytes := x.flatMap t0Escape ++ [0x00]

/-- `T0.decompress` (40 R97); `none` is `CorruptStream`. -/
def t0Decompress : Bytes → Option Bytes
  | [] => none
  | u :: s =>
    if u = 0x00 then some []
    else if u = 0x01 then
      match s with
      | [] => none
      | v :: s' =>
        if v = 0x01 then (t0Decompress s').map (0x00 :: ·)
        else if v = 0x02 then (t0Decompress s').map (0x01 :: ·)
        else none
    else (t0Decompress s).map (u :: ·)

/-- A byte that is neither 0x00 nor 0x01 is written as itself. -/
theorem t0Escape_plain (b : Byte) (h0 : b ≠ 0x00) (h1 : b ≠ 0x01) : t0Escape b = [b] := by
  unfold t0Escape; rw [if_neg h0, if_neg h1]

/-- One escaped byte in front is undone by the decompressor. -/
theorem t0Decompress_escape (b : Byte) (s : Bytes) :
    t0Decompress (t0Escape b ++ s) = (t0Decompress s).map (b :: ·) := by
  by_cases h0 : b = 0x00
  · subst h0; rfl
  · by_cases h1 : b = 0x01
    · subst h1; rfl
    · rw [t0Escape_plain b h0 h1, List.singleton_append, t0Decompress.eq_def]
      simp only [if_neg h0, if_neg h1]

/-- KP2 of `T0` (40 R98): what follows the terminator is never examined. -/
theorem t0_self_terminating (x t : Bytes) : t0Decompress (t0Compress x ++ t) = some x := by
  induction x with
  | nil =>
    show t0Decompress (0x00 :: t) = some []
    rw [t0Decompress.eq_def]; rfl
  | cons b x ih =>
    have : t0Compress (b :: x) ++ t = t0Escape b ++ (t0Compress x ++ t) := by simp [t0Compress]
    rw [this, t0Decompress_escape, ih]; rfl

/-- A stream that ends inside an escape is corrupt. -/
theorem t0Decompress_cut_escape (b : Byte) (p : Bytes) (hp : p <+: t0Escape b) (hl : p.length < (t0Escape b).length) :
    t0Decompress p = none := by
  by_cases h0 : b = 0x00
  · subst h0
    obtain rfl | rfl : p = [] ∨ p = [0x01] := by
      match p, hp, hl with
      | [], _, _ => exact .inl rfl
      | [u], hp, _ => exact .inr (by rw [(List.cons_prefix_cons.mp hp).1])
      | _ :: _ :: _, _, hl => exact absurd hl (by change ¬ (_ + 1 + 1 < 2); omega)
    all_goals rfl
  · by_cases h1 : b = 0x01
    · subst h1
      obtain rfl | rfl : p = [] ∨ p = [0x01] := by
        match p, hp, hl with
        | [], _, _ => exact .inl rfl
        | [u], hp, _ => exact .inr (by rw [(List.cons_prefix_cons.mp hp).1])
        | _ :: _ :: _, _, hl => exact absurd hl (by change ¬ (_ + 1 + 1 < 2); omega)
      all_goals rfl
    · rw [t0Escape_plain b h0 h1] at hl
      rw [List.length_eq_zero_iff.mp (Nat.lt_one_iff.mp hl)]; rfl

/-- KP4 of `T0` (40 R98): a proper prefix of a compressed stream is corrupt. -/
theorem t0_truncation_detected (x p : Bytes) (hp : p <+: t0Compress x) (hl : p.length < (t0Compress x).length) :
    t0Decompress p = none := by
  induction x generalizing p with
  | nil =>
    rw [List.length_eq_zero_iff.mp (Nat.lt_one_iff.mp hl)]; rfl
  | cons b x ih =>
    have hc : t0Compress (b :: x) = t0Escape b ++ t0Compress x := by simp [t0Compress]
    rw [hc] at hp hl
    rcases Nat.lt_or_ge p.length (t0Escape b).length with hlt | hge
    · exact t0Decompress_cut_escape b p (List.prefix_of_prefix_length_le hp (List.prefix_append _ _) hlt.le) hlt
    · obtain ⟨q, rfl⟩ := List.prefix_of_prefix_length_le (List.prefix_append _ _) hp hge
      rw [t0Decompress_escape, ih q ((List.prefix_append_right_inj _).mp hp) (by simpa using hl)]
      rfl

end Sys2Proof
end

