-- ==== Sys2Proof/Config.lean ====
section
/-!
DEFINITION. What is fixed for one machine and is no state (10 R32): the compressor `K` (00 R9) and the index width `IDXW`
(00 R4). `Config.compressor` is opaque, so whatever is proved of the machine holds for every `K` with the named
properties; `Config.misread` is a free value.
-/

namespace Sys2Proof

/-- A compressor `K` (00 R9, 40 R94): a pair of total functions (KP3, 40 R90) constrained only by the named properties.
KP1, losslessness (40 R88), is KP2 with nothing after the stream. -/
structure Compressor where
  /-- `K.compress`. -/
  compress : Bytes → Bytes
  /-- `K.decompress`; `none` is `CorruptStream`. -/
  decompress : Bytes → Option Bytes
  /-- KP2, self-termination (40 R89). -/
  self_terminating : ∀ x t, decompress (compress x ++ t) = some x
  /-- KP4, truncation is detected (40 R91). -/
  truncation_detected : ∀ x p, p <+: compress x → p.length < (compress x).length → decompress p = none

/-- The test compressor as a value of `K` (40 R97, R98). -/
def T0 : Compressor where
  compress := t0Compress
  decompress := t0Decompress
  self_terminating := t0_self_terminating
  truncation_detected := t0_truncation_detected

/-- Some compressor, for as long as there is one: no body, so nothing can be proved of the choice. -/
opaque Config.someCompressor [Inhabited Compressor] : Compressor

/-- The machine's compressor `K`: uninterpreted, constrained only by KP1 to KP4 (40 R94). `T0` serves here only as the
proof that such a pair exists; nothing can be proved that equates the two. DEDUCED, log 4. -/
def Config.compressor : Compressor := @Config.someCompressor ⟨T0⟩

/-- The parameters of the model (00 section 4). -/
structure Params where
  /-- `K`. -/
  K : Compressor
  /-- `IDXW`; `none` is "unbounded" (00 R4). -/
  indexWidth : Option Nat

/-- The machine's parameters: `K` left open, `IDXW` at the spec's default, unbounded (00 R4, 92 D4). DESIGN CHOICE,
log 5. -/
def Config.params : Params where
  K := Config.compressor
  indexWidth := none

/-- The parameters of the spec's test vectors (95 section 3): `K = T0`, `IDXW` unbounded. -/
def Config.testParams : Params where
  K := T0
  indexWidth := none

/-- FREE VALUE: the three channels read from an element of `SRC` that is not of the kind `FMT` names. The spec gives no
rule for it (70 R192 (4) makes the truth of `FMT` a condition of its rules). DESIGN CHOICE, log 7. -/
opaque Config.misread : Fmt → SrcElem → Pixel

end Sys2Proof
end

