-- ==== Sys2Proof/Syntax.lean ====
section
/-!
DEFINITION. The eleven operations (30 R72), one constructor per row of the opcode table, and what the host presents with
a command (30 R74). A command names no register (10 R16): its only field is `FMT`, carried by the five operations that
take a pixel grid (30 R73).
-/

namespace Sys2Proof

/-- The operations of LSB323, in the order of 30 R72. -/
inductive Instr where
  /-- CMP, 40 R85. -/
  | cmp
  /-- DCMP, 40 R86. -/
  | dcmp
  /-- PACK, 41 R100. -/
  | pack
  /-- EMBED, 41 R105. -/
  | embed (fmt : Fmt)
  /-- ENCODE, 41 R115. -/
  | encode (fmt : Fmt)
  /-- UNPK, 42 R125. -/
  | unpk
  /-- EXTRACT, 42 R130. -/
  | extract (fmt : Fmt)
  /-- DECODE, 42 R138. -/
  | decode (fmt : Fmt)
  /-- NORM, 43 R150. -/
  | norm (fmt : Fmt)
  /-- UTF8E, 43 R155. -/
  | utf8e
  /-- UTF8D, 43 R158. -/
  | utf8d
deriving DecidableEq, Repr

/-- The operand buffers, the host's and read-only to the block (10 R28, 20 R40), with the immediate word `IMM` of PACK
and UNPK (30 R74). DEDUCED, logs 6 and 12. -/
structure Operands where
  /-- `TXT`: the payload text. -/
  txt : Text
  /-- `SRC`: the source or candidate image, in row-major order. -/
  src : List SrcElem
  /-- `DATA` as an operand: of EMBED and of DCMP. -/
  data : Bytes
  /-- `PLAIN` as an operand: of CMP and of UTF8D. -/
  plain : Bytes
  /-- `IMM`: `{r, g, b, c}` for PACK, `{r, g, b}` in bits 23:0 for UNPK. -/
  imm : BitVec 32
deriving DecidableEq, Repr

/-- What passes from the host to the block for one operation (70 R196): one command byte, the grid's dimensions and the
operand buffers. -/
structure Request where
  cmd : Byte
  w : Nat
  h : Nat
  opnd : Operands
deriving DecidableEq, Repr

end Sys2Proof
end

