-- ==== Sys2Proof/WellFormed.lean ====
section
/-!
DEFINITION. What is well formed. An instruction: `FMT = 1` only with a grid operation (30 R73), which the constructors
of `Instr` already ensure. A request: what the host owes before an operation starts (70 R192 (3), (4)) and a legal
command byte (30 R75).
-/

namespace Sys2Proof

/-- The five operations that take a pixel grid (30 R73). -/
def Instr.takesGrid : Instr → Bool
  | .cmp => false
  | .dcmp => false
  | .pack => false
  | .embed _ => true
  | .encode _ => true
  | .unpk => false
  | .extract _ => true
  | .decode _ => true
  | .norm _ => true
  | .utf8e => false
  | .utf8d => false

/-- The `FMT` field of an operation: 0 where the operation takes no grid (10 R21). -/
def Instr.fmt : Instr → Fmt
  | .cmp => .rgb
  | .dcmp => .rgb
  | .pack => .rgb
  | .embed fmt => fmt
  | .encode fmt => fmt
  | .unpk => .rgb
  | .extract fmt => fmt
  | .decode fmt => fmt
  | .norm fmt => fmt
  | .utf8e => .rgb
  | .utf8d => .rgb

/-- `FMT = 1` is legal only with an operation that takes a grid (30 R73). -/
def Instr.wf (i : Instr) : Bool := i.takesGrid || decide (i.fmt = .rgb)

/-- The sixteen legal command bytes, as 30 R72 lists them. -/
def legalCommandBytes : List Byte :=
  [0x01, 0x09, 0x02, 0x03, 0x13, 0x05, 0x15, 0x0A, 0x0B, 0x1B, 0x0D, 0x1D, 0x06, 0x16, 0x04, 0x0C]

/-- The command bytes of the grid operations, as 30 R72 lists them. -/
def gridCommandBytes : List Byte :=
  [0x03, 0x13, 0x05, 0x15, 0x0B, 0x1B, 0x0D, 0x1D, 0x06, 0x16]

/-- `CMD[4]` as a format (10 R21). -/
def fmtOfBit (b : Bool) : Fmt := if b then .rgba else .rgb

/-- The element is of the kind `FMT` names (20 R40, the `SRC` row). -/
def SrcElem.inFormat (fmt : Fmt) : SrcElem → Bool
  | .rgb _ => decide (fmt = .rgb)
  | .rgba _ => decide (fmt = .rgba)

/-- "`FMT` says truly whether `SRC` elements carry alpha" (70 R192 (4)). -/
def Operands.srcInFormat (o : Operands) (fmt : Fmt) : Bool := o.src.all (·.inFormat fmt)

/-- The command byte is one of the sixteen. -/
def Request.cmdLegal (r : Request) : Bool := decide (r.cmd ∈ legalCommandBytes)

/-- For a grid operation: `W`, `H` are the dimensions of `SRC` (70 R192 (3)). -/
def Request.shapeOk (r : Request) : Bool :=
  !decide (r.cmd ∈ gridCommandBytes) || decide (r.opnd.src.length = r.w * r.h)

/-- For a grid operation: `FMT` is true of `SRC` (70 R192 (4)). -/
def Request.formatOk (r : Request) : Bool :=
  !decide (r.cmd ∈ gridCommandBytes) || r.opnd.srcInFormat (fmtOfBit (r.cmd.getLsbD 4))

/-- What the host owes in a request for the rules of the spec to hold of the operation (70 R192). -/
def Request.wf (r : Request) : Bool := r.cmdLegal && r.shapeOk && r.formatOk

/-- A grid holds exactly `W * H` pixels (00 R6). -/
def Grid.wf (g : Grid) : Bool := decide (g.px.length = g.w * g.h)

end Sys2Proof
end

