-- ==== Sys2Proof/Decode.lean ====
section
/-!
DEFINITION. The command byte (30 R71 to R75): the decoder, total on the 256 bytes, which rejects the 240 illegal ones by
name, and the encoder, written from the same table.
-/

namespace Sys2Proof

/-- Why a command byte is illegal: the three causes of 30 R75. Where two hold, the decoder names the first of them in this
order; the outcome `ILLEGAL_COMMAND` is the same. DESIGN CHOICE, log 17. -/
inductive Illegal where
  /-- `CMD[7:5] != 0`. -/
  | reservedBits
  /-- `OP` is one of 0x0, 0x7, 0x8, 0xE, 0xF. -/
  | reservedOp
  /-- `FMT = 1` with an operation that takes no grid. -/
  | fmtWithoutGrid
deriving DecidableEq, Repr

/-- An operation without a grid operand is legal only with `FMT = 0` (30 R73). -/
def withoutGrid (fmt : Fmt) (i : Instr) : Except Illegal Instr :=
  match fmt with
  | .rgb => .ok i
  | .rgba => .error .fmtWithoutGrid

/-- The operation of `OP = CMD[3:0] = {DIR, STG}` (30 R71, R72). -/
def decodeOp (op : Nat) (fmt : Fmt) : Except Illegal Instr :=
  match op with
  | 0x1 => withoutGrid fmt .cmp
  | 0x2 => withoutGrid fmt .pack
  | 0x3 => .ok (.embed fmt)
  | 0x4 => withoutGrid fmt .utf8e
  | 0x5 => .ok (.encode fmt)
  | 0x6 => .ok (.norm fmt)
  | 0x9 => withoutGrid fmt .dcmp
  | 0xA => withoutGrid fmt .unpk
  | 0xB => .ok (.extract fmt)
  | 0xC => withoutGrid fmt .utf8d
  | 0xD => .ok (.decode fmt)
  | _ => .error .reservedOp

/-- The decoder of a command byte (30 R71 to R75). -/
def decode (cmd : Byte) : Except Illegal Instr :=
  if cmd.extractLsb' 5 3 ≠ 0 then .error .reservedBits
  else decodeOp (cmd.extractLsb' 0 4).toNat (fmtOfBit (cmd.getLsbD 4))

/-- The operation of a command byte, or none where the byte is illegal. -/
def decode? (cmd : Byte) : Option Instr :=
  match decode cmd with
  | .ok i => some i
  | .error _ => none

/-- The `DIR` bit (30 R71): false on the encode side, true on the decode side. -/
def Instr.dir : Instr → Bool
  | .cmp => false
  | .dcmp => true
  | .pack => false
  | .embed _ => false
  | .encode _ => false
  | .unpk => true
  | .extract _ => true
  | .decode _ => true
  | .norm _ => false
  | .utf8e => false
  | .utf8d => true

/-- The `STG` field (30 R71): 1 compressor adapter, 2 slot primitive, 3 grid operation, 4 UTF-8 stage, 5 whole pipeline,
6 normalise. -/
def Instr.stg : Instr → BitVec 3
  | .cmp => 1
  | .dcmp => 1
  | .pack => 2
  | .embed _ => 3
  | .encode _ => 5
  | .unpk => 2
  | .extract _ => 3
  | .decode _ => 5
  | .norm _ => 6
  | .utf8e => 4
  | .utf8d => 4

/-- The `FMT` bit of a format (10 R21). -/
def Fmt.bit : Fmt → Bool
  | .rgb => false
  | .rgba => true

/-- The command byte `000 FMT DIR STG` of an operation (30 R71). -/
def encode (i : Instr) : Byte :=
  (0 : BitVec 3) ++ BitVec.ofBool i.fmt.bit ++ BitVec.ofBool i.dir ++ i.stg

/-- What the decoder reads from an opcode-table word: a command is one byte, so the byte is the low eight of the `nbits`
bits of `w`. -/
def decodeTableWord (nbits w : Nat) : Option Instr := decode? (BitVec.ofNat 8 (w % 2 ^ nbits))

end Sys2Proof
end

