-- ==== Sys2Proof/Machine/State.lean ====
section
/-!
DEFINITION. The architectural state of the block (10 R13), as plain data, and its value after reset (10 R31).
-/

namespace Sys2Proof.Machine

/-- The working registers and the sequencer index (10 R14, R15, R18). -/
structure Datapath where
  /-- `RED`. -/
  red : Byte
  /-- `GRN`. -/
  grn : Byte
  /-- `BLU`. -/
  blu : Byte
  /-- `C`, the carrier byte. -/
  c : Byte
  /-- `I`, the traversal index: a natural number that never wraps. -/
  i : Nat
deriving DecidableEq, Repr

/-- The result word `RES` (30 R74): `RES[23:0]` after PACK, `RES[7:0]` after UNPK. DEDUCED,
log 12. -/
inductive ResWord where
  /-- `{r', g', b'}`, the result of PACK. -/
  | pixel (w : BitVec 24)
  /-- `c`, the result of UNPK. -/
  | byte (w : Byte)
deriving DecidableEq, Repr

/-- The results the host holds of the operation that ended last (10 R26, R28). A result is absent until an operation
returns it (10 R31); the absence is the spec's own state, not a missing reset value. -/
structure Results where
  /-- `DATA` as a result: of CMP. -/
  data : Option Bytes
  /-- `PLAIN` as a result: of UTF8E and DCMP. -/
  plain : Option Bytes
  /-- `OUT`: of EMBED, ENCODE and NORM. -/
  out : Option Grid
  /-- `RAW`: of EXTRACT. -/
  raw : Option Bytes
  /-- `TXTO`: of UTF8D and DECODE. -/
  txto : Option Text
  /-- `RES`: of PACK and UNPK. -/
  res : Option ResWord
deriving DecidableEq, Repr

/-- No result exists (10 R31, 60 R166). -/
def Results.absent : Results where
  data := none
  plain := none
  out := none
  raw := none
  txto := none
  res := none

/-- Every grid among the results holds exactly `W * H` pixels (20 R56). -/
def Results.wf (r : Results) : Bool := r.out.all Grid.wf

/-- How many results exist. -/
def Results.count (r : Results) : Nat :=
  r.data.toList.length + r.plain.toList.length + r.out.toList.length + r.raw.toList.length
    + r.txto.toList.length + r.res.toList.length

/-- The whole state of the block (10 R13), with the operand buffers the host presents (10 R28). -/
structure State where
  /-- `RED`, `GRN`, `BLU`, `C` and `I`. -/
  dp : Datapath
  /-- `CMD` (10 R20). -/
  cmd : Byte
  /-- `W` (10 R22). -/
  w : Nat
  /-- `H` (10 R22). -/
  h : Nat
  /-- `N` (10 R23). -/
  n : Nat
  /-- `LEN` (10 R24). -/
  len : Nat
  /-- `STATUS` (10 R25): bit 7 `FAULT`, bits 6:0 `CODE`. -/
  status : Byte
  /-- The model's own field: the host has written `CMD` and the operation has not run (10 R20). DESIGN CHOICE,
  log 1. -/
  pending : Bool
  /-- The operand buffers and `IMM`. -/
  opnd : Operands
  /-- The result buffers and `RES`. -/
  rslt : Results
deriving DecidableEq, Repr

/-- What stops the machine. Nothing does: the block has no stuck state and no hang, every operation ends (60 R182, 00
section 7), every access is in range (20 R44), and its own five faults end an operation in a next state with the code in
`STATUS` (60 R165, R177; `FaultCode`). So there is no constructor, and that is neither safe nor unsafe. DEDUCED, log 8. -/
inductive Fault where
deriving DecidableEq, Repr

/-- Why an instruction has no meaning. -/
inductive Refusal where
  /-- Raised by `exec` alone, for an instruction that has no meaning yet; no arm raises it now. Safe: the model stops
  where the hardware goes on. -/
  | notModelled (mnemonic : String)
deriving DecidableEq, Repr

/-- The operand buffers before the host has presented any. The spec gives no value: "not the block's; whatever the host
presents" (10 R31). DESIGN CHOICE, log 3. -/
def Operands.initial : Operands where
  txt := []
  src := []
  data := []
  plain := []
  imm := 0

/-- The state after reset (10 R31, 70 R190): `STATUS` is `IDLE`, no result exists, no operation is in progress. The spec
leaves every other register unspecified and unobservable; zero here is a DESIGN CHOICE, log 2. -/
def State.reset : State where
  dp := { red := 0, grn := 0, blu := 0, c := 0, i := 0 }
  cmd := 0
  w := 0
  h := 0
  n := 0
  len := 0
  status := 0x00
  pending := false
  opnd := Operands.initial
  rslt := Results.absent

end Sys2Proof.Machine
end

