-- ==== Sys2Proof/Machine/Flags.lean ====
section
/-!
DEFINITION. The block has no flags and no condition codes (10 R19); the outcome of an operation is the value of `STATUS`
(30 R78). Here are its codes.
-/

namespace Sys2Proof.Machine

/-- The block's five faults (60 R167). -/
inductive FaultCode where
  /-- `len(DATA) > W * H` in EMBED or ENCODE (60 R168). -/
  | capacityExceeded
  /-- `K.decompress` failed in a standalone DCMP (60 R169). -/
  | corruptStream
  /-- Invalid UTF-8 in a standalone UTF8D (60 R173). -/
  | invalidUtf8
  /-- The command byte is not one of the sixteen legal ones (60 R170). -/
  | illegalCommand
  /-- `len(SRC) != W * H`, or `W * H >= 2^IDXW` (60 R171, R172). -/
  | badDescriptor
deriving DecidableEq, Repr

/-- The code a fault writes to `STATUS` (30 R78). -/
def FaultCode.code : FaultCode → Byte
  | .capacityExceeded => 0x81
  | .corruptStream => 0x82
  | .invalidUtf8 => 0x83
  | .illegalCommand => 0x84
  | .badDescriptor => 0x85

/-- The outcomes `STATUS` names (30 R78). -/
inductive StatusCode where
  /-- No operation has ended since reset. -/
  | idle
  /-- The operation succeeded. -/
  | done
  /-- DECODE found no watermark: a normal outcome (60 R174). -/
  | notWatermarked
  /-- The operation ended in a fault. -/
  | fault (f : FaultCode)
deriving DecidableEq, Repr

/-- The value of `STATUS` for an outcome (30 R78). -/
def StatusCode.code : StatusCode → Byte
  | .idle => 0x00
  | .done => 0x01
  | .notWatermarked => 0x02
  | .fault f => f.code

/-- The eight values of `STATUS`; "all other values are never produced" (30 R78). -/
def statusValues : List Byte := [0x00, 0x01, 0x02, 0x81, 0x82, 0x83, 0x84, 0x85]

/-- `STATUS[7]`, the `FAULT` bit (10 R25). -/
def faultBit (status : Byte) : Bool := status.getLsbD 7

end Sys2Proof.Machine
end

