-- ==== Sys2Proof/Machine/Operands.lean ====
section
/-!
DEFINITION. The operand forms: the fields of the immediate word (30 R74), the read of one pixel element (41 R107), the
flattened layout of pixels (20 R48) and the row-major index (20 R42).
-/

namespace Sys2Proof.Machine

/-- `rgb(e)` (41 R107): the element itself when `FMT = 0`, without its alpha when `FMT = 1`. An element that is not of the
kind `FMT` names reads as a free value (DESIGN CHOICE, log 7). -/
def rgb (fmt : Fmt) (e : SrcElem) : Pixel :=
  match fmt, e with
  | .rgb, .rgb p => p
  | .rgba, .rgba p => { r := p.r, g := p.g, b := p.b }
  | .rgb, .rgba p => Config.misread .rgb (.rgba p)
  | .rgba, .rgb p => Config.misread .rgba (.rgb p)

/-- The pixel operand of PACK: `IMM[31:8] = {r, g, b}` (30 R74). -/
def packPixelOperand (imm : BitVec 32) : Pixel where
  r := imm.extractLsb' 24 8
  g := imm.extractLsb' 16 8
  b := imm.extractLsb' 8 8

/-- The byte operand of PACK: `IMM[7:0] = c` (30 R74). -/
def packByteOperand (imm : BitVec 32) : Byte := imm.extractLsb' 0 8

/-- The pixel operand of UNPK: `IMM[23:0] = {r, g, b}` (30 R74). -/
def unpkPixelOperand (imm : BitVec 32) : Pixel where
  r := imm.extractLsb' 16 8
  g := imm.extractLsb' 8 8
  b := imm.extractLsb' 0 8

/-- A pixel as a 24-bit word `{r, g, b}`, red in bits 23:16 (20 R48). -/
def pixelWord (p : Pixel) : BitVec 24 := p.r ++ p.g ++ p.b

/-- A pixel with alpha as a 32-bit word `{r, g, b, a}` (20 R48). -/
def pixel4Word (p : Pixel4) : BitVec 32 := p.r ++ p.g ++ p.b ++ p.a

/-- The bytes of one element in a flattened buffer: red, green, blue, then alpha where there is one (20 R48). -/
def elemBytes : SrcElem → Bytes
  | .rgb p => [p.r, p.g, p.b]
  | .rgba p => [p.r, p.g, p.b, p.a]

/-- A pixel buffer flattened to bytes, no padding, element 0 first (20 R48). -/
def flatten (px : List SrcElem) : Bytes := px.flatMap elemBytes

/-- The index of the pixel in row `y` and column `x` of a grid of width `w` (20 R42). -/
def rowMajor (w x y : Nat) : Nat := y * w + x

/-- The pixel in row `y` and column `x` of a grid (20 R42). -/
def pixelAt (g : Grid) (x y : Nat) : Option Pixel :=
  if x < g.w ∧ y < g.h then g.px[rowMajor g.w x y]? else none

/-- A three-channel grid presented as `SRC` with `FMT = 0`. -/
def asSource (px : List Pixel) : List SrcElem := px.map .rgb

end Sys2Proof.Machine
end

