-- ==== Sys2Proof/Machine/Ops.lean ====
section
/-!
DEFINITION. The operations every instruction shares: how an operation ends (a result, a fault, "not watermarked"), the
descriptor check, the register transfers of the datapath, and the traversal of a grid.
-/

namespace Sys2Proof.Machine

/-! ### How an operation ends -/

/-- The end of an operation (10 R25, R26; 20 R53): `STATUS` takes the code, the results of this operation, and no others,
are what the host holds, and the block is ready for the next command. DEDUCED, log 11. -/
def endOperation (code : StatusCode) (r : Results) (s : State) : State :=
  { s with status := code.code, rslt := r, pending := false }

/-- `return Done(buffers)` (00 R7). -/
def deliver (r : Results) (s : State) : State := endOperation .done r s

/-- `raise <Fault>()`: TAKING A FAULT (60 R165, R166, R177). `STATUS` takes the code, no result is delivered, nothing is
saved and control goes nowhere; the block is ready for the next command. There is no return from it (60 R178). -/
def raiseFault (f : FaultCode) (s : State) : State := endOperation (.fault f) Results.absent s

/-- `return NotWatermarked` (42 R139): a normal outcome without a result. -/
def answerNotWatermarked (s : State) : State := endOperation .notWatermarked Results.absent s

/-- The results of an operation whose one result is `DATA`. -/
def dataResult (b : Bytes) : Results := { Results.absent with data := some b }

/-- The results of an operation whose one result is `PLAIN`. -/
def plainResult (b : Bytes) : Results := { Results.absent with plain := some b }

/-- The results of an operation whose one result is `OUT`. -/
def outResult (g : Grid) : Results := { Results.absent with out := some g }

/-- The results of an operation whose one result is `RAW`. -/
def rawResult (b : Bytes) : Results := { Results.absent with raw := some b }

/-- The results of an operation whose one result is `TXTO`. -/
def txtoResult (t : Text) : Results := { Results.absent with txto := some t }

/-- The results of an operation whose one result is the word `RES`. -/
def resResult (w : ResWord) : Results := { Results.absent with res := some w }

/-! ### Writing registers -/

/-- Writes the working registers and the sequencer index. -/
def setDatapath (d : Datapath) (s : State) : State := { s with dp := d }

/-- Writes `N` (10 R23). -/
def setN (n : Nat) (s : State) : State := { s with n := n }

/-- Writes `LEN` (10 R24). -/
def setLen (len : Nat) (s : State) : State := { s with len := len }

/-- Loads `RED`, `GRN` and `BLU` together from a pixel (10 R14). -/
def loadPixel (p : Pixel) (d : Datapath) : Datapath := { d with red := p.r, grn := p.g, blu := p.b }

/-- Loads `C` (10 R15). -/
def loadByte (c : Byte) (d : Datapath) : Datapath := { d with c := c }

/-- The pixel in `RED`, `GRN` and `BLU`. -/
def regPixel (d : Datapath) : Pixel where
  r := d.red
  g := d.grn
  b := d.blu

/-- `I <- 0` (10 R18). -/
def startIndex (d : Datapath) : Datapath := { d with i := 0 }

/-- `I <- I + 1` (10 R18). -/
def advance (d : Datapath) : Datapath := { d with i := d.i + 1 }

/-! ### The descriptor check -/

/-- A pixel count fits the index width `IDXW`: `n < 2^IDXW`, always where the width is unbounded (60 R172). -/
def fitsIndex (p : Params) (n : Nat) : Bool :=
  match p.indexWidth with
  | none => true
  | some k => decide (n < 2 ^ k)

/-- The check that precedes every stage of a grid operation (60 R171, R172, R176): the shape, then the size. `bad` where
either fails, else `good`. -/
def checkDescriptor {α : Type} (p : Params) (s : State) (bad good : α) : α :=
  if s.opnd.src.length ≠ s.w * s.h then bad
  else if fitsIndex p (s.w * s.h) = false then bad
  else good

/-- A grid operation: `BAD_DESCRIPTOR` where the check fails, else its stages (60 R171). -/
def withDescriptor (p : Params) (run : State → State) (s : State) : State :=
  checkDescriptor p s (raiseFault .badDescriptor s) (run s)

/-! ### The traversal -/

/-- The counted loop of a grid operation (10 R18, 41 R105, 42 R130): for each element in row-major order the pixel action
`f` works on the registers and gives the element of the result buffer, then `I` advances. Answers the registers after the
last pixel and the whole result buffer. -/
def traverse {α : Type} (f : Datapath → SrcElem → Datapath × α) : List SrcElem → Datapath → Datapath × List α
  | [], d => (d, [])
  | e :: es, d =>
    let one := f d e
    let rest := traverse f es (advance one.1)
    (rest.1, one.2 :: rest.2)

/-! ### What the host does between operations -/

/-- The host presents a command (10 R20, 70 R196): `CMD`, `W`, `H` are written as part of presenting it (60 R183), the
operand buffers are handed over, and an operation is to start. Logs 1 and 15. -/
def present (r : Request) (s : State) : State :=
  { s with cmd := r.cmd, w := r.w, h := r.h, opnd := r.opnd, pending := true }

/-- Reset applied to a block in any state (70 R190): an operation presented is abandoned without outcome or result, and
the operand buffers, the host's, are intact. DESIGN CHOICE, log 14. -/
def applyReset (s : State) : State := { State.reset with opnd := s.opnd }

/-- What the host can observe (10 R26): `STATUS` and the results of the operation that ended last. -/
def observed (s : State) : Byte × Results := (s.status, s.rslt)

end Sys2Proof.Machine
end

