-- ==== Sys2Proof/Machine/Slots.lean ====
section
/-!
DEFINITION. The carrier format, 3 bits in red, 2 in green, 3 in blue (30 R63 to R65): injection of a byte into a pixel and
extraction of it, as pure functions and as register transfers; and the per-pixel actions of the grid operations.
-/

namespace Sys2Proof.Machine

/-- `red' = (red & 0xF8) | ((c & 0xE0) >> 5)` (30 R64). -/
def injectRed (red c : Byte) : Byte := (red &&& 0xF8) ||| ((c &&& 0xE0) >>> 5)

/-- `green' = (green & 0xFC) | ((c & 0x18) >> 3)` (30 R64). -/
def injectGreen (green c : Byte) : Byte := (green &&& 0xFC) ||| ((c &&& 0x18) >>> 3)

/-- `blue' = (blue & 0xF8) | (c & 0x07)` (30 R64). -/
def injectBlue (blue c : Byte) : Byte := (blue &&& 0xF8) ||| (c &&& 0x07)

/-- `PACK(r, g, b, c)` as a pure function (41 R100). -/
def packPixel (p : Pixel) (c : Byte) : Pixel where
  r := injectRed p.r c
  g := injectGreen p.g c
  b := injectBlue p.b c

/-- `UNPK(r, g, b)` as a pure function: `((red & 0x07) << 5) | ((green & 0x03) << 3) | (blue & 0x07)` (30 R65, 42 R125). -/
def unpackPixel (p : Pixel) : Byte :=
  ((p.r &&& 0x07) <<< 5) ||| ((p.g &&& 0x03) <<< 3) ||| (p.b &&& 0x07)

/-- The three register assignments of PACK (41 R100). -/
def injectRegs (d : Datapath) : Datapath :=
  { d with red := injectRed d.red d.c, grn := injectGreen d.grn d.c, blu := injectBlue d.blu d.c }

/-- The register assignment of UNPK (42 R125). -/
def extractRegs (d : Datapath) : Datapath := { d with c := unpackPixel (regPixel d) }

/-- The pixel step of EMBED (41 R105, R112): the registers take `SRC[I]`; where `I < LEN`, `C` takes `DATA[I]` and the
channels are replaced; the pixel in the registers goes to `OUT[I]`. -/
def embedPixel (fmt : Fmt) (data : Bytes) (d : Datapath) (e : SrcElem) : Datapath × Pixel :=
  let loaded := loadPixel (rgb fmt e) d
  if h : d.i < data.length then
    let packed := injectRegs (loadByte data[d.i] loaded)
    (packed, regPixel packed)
  else (loaded, regPixel loaded)

/-- The pixel step of EXTRACT (42 R130, R135): the registers take `SRC[I]`, `C` takes the byte in its slots, which goes to
`RAW[I]`. -/
def extractPixel (fmt : Fmt) (d : Datapath) (e : SrcElem) : Datapath × Byte :=
  let unpacked := extractRegs (loadPixel (rgb fmt e) d)
  (unpacked, unpacked.c)

/-- The element step of NORM (43 R150): `rgb(SRC[I])` goes to `OUT[I]`; no working register is used (10 R16). -/
def normPixel (fmt : Fmt) (d : Datapath) (e : SrcElem) : Datapath × Pixel := (d, rgb fmt e)

end Sys2Proof.Machine
end

