-- ==== Sys2Proof/Machine/Utf8.lean ====
section
/-!
DEFINITION. UTF-8 (43 R156, R159): the shortest-form encoder of a text and the strict decoder of a byte sequence. They do
nothing else: no byte-order mark, no normalisation, no replacement character (43 R161).
-/

namespace Sys2Proof.Machine

/-- The byte of value `v`, for `v` below 256. -/
def byteOf (v : Nat) : Byte := BitVec.ofNat 8 v

/-- The shortest UTF-8 form of the scalar value `v` (43 R156), its bits most significant first. -/
def utf8EncodeScalar (v : Nat) : Bytes :=
  if v < 0x80 then [byteOf v]
  else if v < 0x800 then [byteOf (0xC0 + v / 0x40), byteOf (0x80 + v % 0x40)]
  else if v < 0x10000 then
    [byteOf (0xE0 + v / 0x1000), byteOf (0x80 + v / 0x40 % 0x40), byteOf (0x80 + v % 0x40)]
  else
    [byteOf (0xF0 + v / 0x40000), byteOf (0x80 + v / 0x1000 % 0x40), byteOf (0x80 + v / 0x40 % 0x40),
      byteOf (0x80 + v % 0x40)]

/-- `utf8_encode(t)`: the encodings of the scalar values in order (43 R156). -/
def utf8Encode (t : Text) : Bytes := t.flatMap fun ch => utf8EncodeScalar ch.toNat

/-- A continuation byte `10xxxxxx` (43 R156). -/
def isContinuation (b : Byte) : Bool := decide (b.toNat / 0x40 = 2)

/-- The six payload bits of a continuation byte. -/
def continuationBits (b : Byte) : Nat := b.toNat % 0x40

/-- The scalar value `v`, if it is one and no shorter form holds it, `least` being the least value of the form
(43 R159: no overlong form, no surrogate, nothing above 0x10FFFF). -/
def scalarFrom (least v : Nat) : Option Char :=
  if least ≤ v ∧ v.isValidChar then some (Char.ofNat v) else none

/-- A decoded scalar value in front of the decoded rest. -/
def consScalar (ch : Option Char) (rest : Option Text) : Option Text :=
  match ch, rest with
  | some c, some t => some (c :: t)
  | _, _ => none

/-- `utf8_decode(b)` (43 R159); `none` is `Invalid`. The lead byte says how many continuation bytes follow. -/
def utf8Decode : Bytes → Option Text
  | [] => some []
  | b0 :: r0 =>
    if b0.toNat < 0x80 then consScalar (scalarFrom 0 b0.toNat) (utf8Decode r0)
    else if b0.toNat / 0x20 = 6 then
      match r0 with
      | b1 :: r1 =>
        if isContinuation b1 then
          consScalar (scalarFrom 0x80 (b0.toNat % 0x20 * 0x40 + continuationBits b1)) (utf8Decode r1)
        else none
      | [] => none
    else if b0.toNat / 0x10 = 14 then
      match r0 with
      | b1 :: b2 :: r2 =>
        if isContinuation b1 && isContinuation b2 then
          consScalar
            (scalarFrom 0x800 (b0.toNat % 0x10 * 0x1000 + continuationBits b1 * 0x40 + continuationBits b2))
            (utf8Decode r2)
        else none
      | _ => none
    else if b0.toNat / 8 = 30 then
      match r0 with
      | b1 :: b2 :: b3 :: r3 =>
        if isContinuation b1 && isContinuation b2 && isContinuation b3 then
          consScalar
            (scalarFrom 0x10000
              (b0.toNat % 8 * 0x40000 + continuationBits b1 * 0x1000 + continuationBits b2 * 0x40
                + continuationBits b3))
            (utf8Decode r3)
        else none
      | _ => none
    else none

end Sys2Proof.Machine
end

