-- ==== Sys2Proof/Machine/Boundary.lean ====
section
/-!
DEFINITION. The boundary stages: NORM, UTF8E and UTF8D (43).
-/

namespace Sys2Proof.Machine

/-- NORM after the descriptor check (43 R150): the grid copied with its alpha dropped. `N` is computed at the start of
every grid operation (10 R23). DEDUCED, log 10. -/
def normStage (fmt : Fmt) (s : State) : State :=
  let run := traverse (normPixel fmt) s.opnd.src (startIndex s.dp)
  deliver (outResult { w := s.w, h := s.h, px := run.2 }) (setDatapath run.1 (setN (s.w * s.h) s))

/-- NORM (43 R150). -/
def normEffect (p : Params) (fmt : Fmt) (s : State) : State := withDescriptor p (normStage fmt) s

/-- UTF8E (43 R155): `PLAIN <- utf8_encode(TXT)`. -/
def utf8eEffect (_p : Params) (s : State) : State := deliver (plainResult (utf8Encode s.opnd.txt)) s

/-- UTF8D (43 R158): `TXTO <- utf8_decode(PLAIN)`, or `INVALID_UTF8`. -/
def utf8dEffect (_p : Params) (s : State) : State :=
  match utf8Decode s.opnd.plain with
  | some t => deliver (txtoResult t) s
  | none => raiseFault .invalidUtf8 s

/-- The meaning of NORM. -/
def execNorm (fmt : Fmt) (s : State) : Host.Outcome State Fault Refusal := .next (normEffect Config.params fmt s)

/-- The meaning of UTF8E. -/
def execUtf8e (s : State) : Host.Outcome State Fault Refusal := .next (utf8eEffect Config.params s)

/-- The meaning of UTF8D. -/
def execUtf8d (s : State) : Host.Outcome State Fault Refusal := .next (utf8dEffect Config.params s)

end Sys2Proof.Machine
end

