-- ==== Sys2Proof/Machine/Compress.lean ====
section
/-!
DEFINITION. The compressor adapter: CMP and DCMP (40 R85, R86). It keeps no state and adds nothing to the bytes `K`
produces or consumes (40 R87). Each meaning is given for every parameter set `p` and then taken at the machine's own.
-/

namespace Sys2Proof.Machine

/-- CMP (40 R85): `DATA <- K.compress(PLAIN)`. -/
def cmpEffect (p : Params) (s : State) : State := deliver (dataResult (p.K.compress s.opnd.plain)) s

/-- DCMP (40 R86): `PLAIN <- K.decompress(DATA)`, or `CORRUPT_STREAM`. -/
def dcmpEffect (p : Params) (s : State) : State :=
  match p.K.decompress s.opnd.data with
  | some plain => deliver (plainResult plain) s
  | none => raiseFault .corruptStream s

/-- The meaning of CMP. -/
def execCmp (s : State) : Host.Outcome State Fault Refusal := .next (cmpEffect Config.params s)

/-- The meaning of DCMP. -/
def execDcmp (s : State) : Host.Outcome State Fault Refusal := .next (dcmpEffect Config.params s)

end Sys2Proof.Machine
end

