-- ==== Sys2Proof/Machine/DecodePath.lean ====
section
/-!
DEFINITION. The decode path: UNPK, EXTRACT and DECODE (42).
-/

namespace Sys2Proof.Machine

/-- UNPK (42 R125): the operand word is loaded into the registers, `C` takes the byte in the slots, `RES` takes `C`. -/
def unpkEffect (_p : Params) (s : State) : State :=
  let unpacked := extractRegs (loadPixel (unpkPixelOperand s.opnd.imm) s.dp)
  deliver (resResult (.byte unpacked.c)) (setDatapath unpacked s)

/-- The EXTRACT stage, after the descriptor check (42 R130): `N` is set and the traversal writes the whole of `RAW`, which
is answered with the state. -/
def extractStage (fmt : Fmt) (s : State) : State × Bytes :=
  let run := traverse (extractPixel fmt) s.opnd.src (startIndex s.dp)
  (setDatapath run.1 (setN (s.w * s.h) s), run.2)

/-- EXTRACT after the descriptor check: the whole of `RAW` is delivered. -/
def extractDeliver (fmt : Fmt) (s : State) : State :=
  let stage := extractStage fmt s
  deliver (rawResult stage.2) stage.1

/-- EXTRACT (42 R130). -/
def extractEffect (p : Params) (fmt : Fmt) (s : State) : State := withDescriptor p (extractDeliver fmt) s

/-- The stages of DECODE after the descriptor check (42 R138): EXTRACT, DCMP on the whole of `RAW`, UTF8D. A failure of
either of the last two is the normal outcome `NotWatermarked` (42 R139); the bytes between the stages are not delivered. -/
def decodeStages (p : Params) (fmt : Fmt) (s : State) : State :=
  let stage := extractStage fmt s
  match p.K.decompress stage.2 with
  | none => answerNotWatermarked stage.1
  | some plain =>
    match utf8Decode plain with
    | none => answerNotWatermarked stage.1
    | some t => deliver (txtoResult t) stage.1

/-- DECODE (42 R138): the descriptor is checked once, first. -/
def decodeEffect (p : Params) (fmt : Fmt) (s : State) : State := withDescriptor p (decodeStages p fmt) s

/-- The meaning of UNPK. -/
def execUnpk (s : State) : Host.Outcome State Fault Refusal := .next (unpkEffect Config.params s)

/-- The meaning of EXTRACT. -/
def execExtract (fmt : Fmt) (s : State) : Host.Outcome State Fault Refusal := .next (extractEffect Config.params fmt s)

/-- The meaning of DECODE. -/
def execDecode (fmt : Fmt) (s : State) : Host.Outcome State Fault Refusal := .next (decodeEffect Config.params fmt s)

end Sys2Proof.Machine
end

