-- ==== Sys2Proof/Machine/EncodePath.lean ====
section
/-!
DEFINITION. The encode path: PACK, EMBED and ENCODE (41).
-/

namespace Sys2Proof.Machine

/-- PACK (41 R100): the operand word is loaded into the registers, the channels are replaced, `RES` takes the pixel. -/
def packEffect (_p : Params) (s : State) : State :=
  let loaded := loadByte (packByteOperand s.opnd.imm) (loadPixel (packPixelOperand s.opnd.imm) s.dp)
  let packed := injectRegs loaded
  deliver (resResult (.pixel (pixelWord (regPixel packed)))) (setDatapath packed s)

/-- The EMBED stage on a byte sequence `data`, after the descriptor check (41 R105, R106): `N` and `LEN` are set, the
capacity check is made before the first pixel is read, and the traversal writes the whole of `OUT`. What the unreadable registers hold at each end
is DEDUCED from the pseudocode, log 9. -/
def embedStage (fmt : Fmt) (data : Bytes) (s : State) : State :=
  let counted := setLen data.length (setN (s.w * s.h) s)
  if counted.len > counted.n then raiseFault .capacityExceeded counted
  else
    let run := traverse (embedPixel fmt data) s.opnd.src (startIndex s.dp)
    deliver (outResult { w := s.w, h := s.h, px := run.2 }) (setDatapath run.1 counted)

/-- EMBED (41 R105). -/
def embedEffect (p : Params) (fmt : Fmt) (s : State) : State :=
  withDescriptor p (embedStage fmt s.opnd.data) s

/-- The stages of ENCODE after the descriptor check (41 R115): UTF8E, CMP and EMBED; the bytes between them are not
delivered. -/
def encodeStages (p : Params) (fmt : Fmt) (s : State) : State :=
  embedStage fmt (p.K.compress (utf8Encode s.opnd.txt)) s

/-- ENCODE (41 R115): the descriptor is checked once, first. -/
def encodeEffect (p : Params) (fmt : Fmt) (s : State) : State := withDescriptor p (encodeStages p fmt) s

/-- The meaning of PACK. -/
def execPack (s : State) : Host.Outcome State Fault Refusal := .next (packEffect Config.params s)

/-- The meaning of EMBED. -/
def execEmbed (fmt : Fmt) (s : State) : Host.Outcome State Fault Refusal := .next (embedEffect Config.params fmt s)

/-- The meaning of ENCODE. -/
def execEncode (fmt : Fmt) (s : State) : Host.Outcome State Fault Refusal := .next (encodeEffect Config.params fmt s)

end Sys2Proof.Machine
end

