-- ==== Sys2Proof/Machine/Dispatch.lean ====
section
/-!
DEFINITION. One arm per operation: the call of its meaning.
-/

namespace Sys2Proof.Machine

def exec (i : Instr) (s : State) : Host.Outcome State Fault Refusal :=
  match i with
  | .cmp => Sys2Proof.Machine.execCmp s
  | .dcmp => Sys2Proof.Machine.execDcmp s
  | .pack => Sys2Proof.Machine.execPack s
  | .embed fmt => Sys2Proof.Machine.execEmbed fmt s
  | .encode fmt => Sys2Proof.Machine.execEncode fmt s
  | .unpk => Sys2Proof.Machine.execUnpk s
  | .extract fmt => Sys2Proof.Machine.execExtract fmt s
  | .decode fmt => Sys2Proof.Machine.execDecode fmt s
  | .norm fmt => Sys2Proof.Machine.execNorm fmt s
  | .utf8e => Sys2Proof.Machine.execUtf8e s
  | .utf8d => Sys2Proof.Machine.execUtf8d s

end Sys2Proof.Machine
end

