-- ==== Sys2Proof/Machine/Serve.lean ====
section
/-!
DEFINITION. What `step` calls beside `exec` (an illegal command, an idle block, the placing of a command byte), and the
same machine at any parameters: `effect` and `stepWith`, for the spec's test vectors (`K = T0`) and for an instance of
finite index width.
-/

namespace Sys2Proof.Machine

/-- A command byte that is illegal (30 R75, 60 R170): no operand is looked at, nothing is written but `STATUS`. -/
def illegalCommand (s : State) : State := raiseFault .illegalCommand s

/-- A block to which no command was presented executes nothing (70 R191). DESIGN CHOICE, log 1. -/
def idle (s : State) : State := s

/-- Writes a command byte to `CMD`, which starts an operation (10 R20). -/
def writeCommand (cmd : Byte) (s : State) : State := { s with cmd := cmd, pending := true }

/-- What an operation does, at any parameters. `exec` is this at `Config.params`. -/
def effect (p : Params) (i : Instr) (s : State) : State :=
  match i with
  | .cmp => cmpEffect p s
  | .dcmp => dcmpEffect p s
  | .pack => packEffect p s
  | .embed fmt => embedEffect p fmt s
  | .encode fmt => encodeEffect p fmt s
  | .unpk => unpkEffect p s
  | .extract fmt => extractEffect p fmt s
  | .decode fmt => decodeEffect p fmt s
  | .norm fmt => normEffect p fmt s
  | .utf8e => utf8eEffect p s
  | .utf8d => utf8dEffect p s

/-- One step at any parameters. `step` is this at `Config.params`. -/
def stepWith (p : Params) (s : State) : State :=
  if s.pending then
    match decode s.cmd with
    | .ok i => effect p i s
    | .error _ => illegalCommand s
  else idle s

/-- The host presents one request and the block runs it. -/
def serve (p : Params) (s : State) (r : Request) : State := stepWith p (present r s)

/-- A program: a list of requests, served one after the other (70 R199). -/
def runProgram (p : Params) (rs : List Request) (s : State) : State := rs.foldl (serve p) s

end Sys2Proof.Machine
end

