-- ==== Sys2Proof/Machine/Step.lean ====
section
/-!
DEFINITION. One step: an operation is one indivisible transition from the command and the operands to the outcome
(00 R2, 70 R198). There is no program counter and no fetch from memory (10 R18, 20 R55): the command is in `CMD`.
-/

namespace Sys2Proof.Machine

/-- One step. A presented command runs: its byte is checked first (60 R176), then the operation has its effect. With no
command presented the block stays as it is. -/
def step (s : State) : Host.Outcome State Fault Refusal :=
  if s.pending then
    match decode s.cmd with
    | .ok i => exec i s
    | .error _ => .next (illegalCommand s)
  else .next (idle s)

/-- The state with a command byte where the next step takes its command from: in `CMD`, an operation to start. The operand
buffers, the descriptor registers and all else are as they were. -/
def State.withFetchWord (s : State) (nbits w : Nat) : State := writeCommand (BitVec.ofNat 8 (w % 2 ^ nbits)) s

end Sys2Proof.Machine
end

