-- ==== Sys2Proof/Machine/Sequencer.lean ====
section
/-!
DEFINITION. The per-pixel realisation of EMBED and EXTRACT (41 R112, 42 R135, 92 D23): a start step, which makes the checks
and may end the operation, one step for each pixel, and an end step, which delivers the result. It works on the block's own
state and the result buffer under construction. The block's own step stays the whole operation (00 R2); that the two agree
is a statement.
-/

namespace Sys2Proof.Machine

/-- The state between `start` and `end`: the block, with `N`, `LEN`, `I` and the working registers, and the result buffer,
whose elements not yet written are `none`. -/
structure SeqState (α : Type) where
  st : State
  buf : List (Option α)
deriving DecidableEq, Repr

/-- What the start step leaves. -/
inductive Started (α : Type) where
  /-- A check failed: the operation has ended in its fault. -/
  | ended (t : State)
  /-- The pixel steps may run. -/
  | running (q : SeqState α)
deriving DecidableEq, Repr

/-- The last acts of `start`: a buffer of `N` elements, none yet written, and `I <- 0`. -/
def seqOpen {α : Type} (s : State) : SeqState α where
  st := setDatapath (startIndex s.dp) s
  buf := List.replicate s.n none

/-- The start step of EMBED on the bytes `data` (41 R112): the descriptor check, `N` and `LEN`, the capacity check, the
buffer. -/
def embedSeqStart (p : Params) (data : Bytes) (s : State) : Started Pixel :=
  checkDescriptor p s (.ended (raiseFault .badDescriptor s))
    (let counted := setLen data.length (setN (s.w * s.h) s)
      if counted.len > counted.n then .ended (raiseFault .capacityExceeded counted) else .running (seqOpen counted))

/-- The start step of EXTRACT (42 R135): the descriptor check, `N`, the buffer. -/
def extractSeqStart (p : Params) (s : State) : Started Byte :=
  checkDescriptor p s (.ended (raiseFault .badDescriptor s)) (.running (seqOpen (setN (s.w * s.h) s)))

/-- `step`, enabled when `I < N`: the pixel action on `SRC[I]`, the write of element `I`, `I <- I + 1`. `none` where the
step is not enabled. -/
def seqStep {α : Type} (f : Datapath → SrcElem → Datapath × α) (q : SeqState α) : Option (SeqState α) :=
  if q.st.dp.i < q.st.n then
    match q.st.opnd.src[q.st.dp.i]? with
    | some e =>
      let one := f q.st.dp e
      some { st := setDatapath (advance one.1) q.st, buf := q.buf.set q.st.dp.i (some one.2) }
    | none => none
  else none

/-- `end`, enabled when `I = N`: `return Done` of the whole buffer, as the results `result` makes of it. `none` where the
step is not enabled or an element is not written. -/
def seqEnd {α : Type} (result : State → List α → Results) (q : SeqState α) : Option State :=
  if q.st.dp.i = q.st.n then (q.buf.mapM id).map fun l => deliver (result q.st l) q.st else none

/-- The result of EMBED: `OUT`, of the same `W` and `H` as `SRC` (20 R56). -/
def embedSeqResult (s : State) (px : List Pixel) : Results := outResult { w := s.w, h := s.h, px := px }

/-- The result of EXTRACT: `RAW`. -/
def extractSeqResult (_s : State) (raw : Bytes) : Results := rawResult raw

/-- `k` pixel steps one after the other. -/
def seqSteps {α : Type} (f : Datapath → SrcElem → Datapath × α) : Nat → SeqState α → Option (SeqState α)
  | 0, q => some q
  | k + 1, q =>
    match seqStep f q with
    | some q' => seqSteps f k q'
    | none => none

/-- The whole run after `start`: nothing where it has ended the operation, else `N` pixel steps and the end step. `none`
where a step is not enabled. -/
def seqRun {α : Type} (f : Datapath → SrcElem → Datapath × α) (result : State → List α → Results) :
    Started α → Option State
  | .ended t => some t
  | .running q =>
    match seqSteps f q.st.n q with
    | some q' => seqEnd result q'
    | none => none

/-- EMBED by its per-pixel realisation (41 R112). -/
def embedSeqRun (p : Params) (fmt : Fmt) (s : State) : Option State :=
  seqRun (embedPixel fmt s.opnd.data) embedSeqResult (embedSeqStart p s.opnd.data s)

/-- EXTRACT by its per-pixel realisation (42 R135). -/
def extractSeqRun (p : Params) (fmt : Fmt) (s : State) : Option State :=
  seqRun (extractPixel fmt) extractSeqResult (extractSeqStart p s)

end Sys2Proof.Machine
end

