-- ==== Sys2Proof/Safety.lean ====
section
/-!
DEFINITION. What claims about the block say: the invariant of its states, a run without a fault, the outcomes of each operation,
and the agreement of pixels in their slots.
-/

namespace Sys2Proof.Machine

/-- No fault is recorded in `STATUS`. NotWatermarked is no fault (60 R174). -/
def faultFree (s : State) : Bool := !faultBit s.status

/-- A program in which no request ends in a fault. The block keeps no such record (60 R179): it is kept here. -/
def programFaultFree (p : Params) : List Request → State → Bool
  | [], _ => true
  | r :: rs, s => faultFree (serve p s r) && programFaultFree p rs (serve p s r)

/-- `STATUS` is one of its eight values (30 R78). -/
def statusLegal (s : State) : Bool := decide (s.status ∈ statusValues)

/-- The results are complete or absent (60 R166, 70 R196): exactly one where the last operation succeeded, none where it
did not. -/
def resultsMatchStatus (s : State) : Bool :=
  if s.status = StatusCode.done.code then decide (s.rslt.count = 1) else decide (s.rslt = Results.absent)

/-- The invariant of the block's states: the status is legal, the results match it, and an `OUT` grid has `W * H`
pixels. -/
def State.Inv (s : State) : Bool := statusLegal s && resultsMatchStatus s && s.rslt.wf

/-- The values of `STATUS` an operation can end in, once its command byte is legal (30 R74, 60 R167). -/
def outcomesOf : Instr → List Byte
  | .cmp => [0x01]
  | .dcmp => [0x01, 0x82]
  | .pack => [0x01]
  | .embed _ => [0x01, 0x81, 0x85]
  | .encode _ => [0x01, 0x81, 0x85]
  | .unpk => [0x01]
  | .extract _ => [0x01, 0x85]
  | .decode _ => [0x01, 0x02, 0x85]
  | .norm _ => [0x01, 0x85]
  | .utf8e => [0x01]
  | .utf8d => [0x01, 0x83]

/-- The same state with other bytes presented as `DATA`. -/
def withData (b : Bytes) (s : State) : State := { s with opnd := { s.opnd with data := b } }

/-- The same state with other bytes presented as `PLAIN`. -/
def withPlain (b : Bytes) (s : State) : State := { s with opnd := { s.opnd with plain := b } }

/-- The same state with another grid presented as `SRC`. -/
def withSource (src : List SrcElem) (s : State) : State := { s with opnd := { s.opnd with src := src } }

/-- The slots of two pixels agree: the low three bits of red and blue and the low two of green (42 R126). -/
def sameSlots (p q : Pixel) : Prop :=
  p.r.extractLsb' 0 3 = q.r.extractLsb' 0 3 ∧ p.g.extractLsb' 0 2 = q.g.extractLsb' 0 2
    ∧ p.b.extractLsb' 0 3 = q.b.extractLsb' 0 3

/-- The bytes in the slots of a source grid, in traversal order (42 R131). -/
def slotBytes (fmt : Fmt) (src : List SrcElem) : Bytes := src.map fun e => unpackPixel (rgb fmt e)

/-- `OUT[i]` of a successful EMBED as 41 R108 gives it: `PACK(rgb(SRC[i]), DATA[i])` where `i < LEN`, else `rgb(SRC[i])`. -/
def embedElement (fmt : Fmt) (data : Bytes) (i : Nat) (e : SrcElem) : Pixel :=
  match data[i]? with
  | some c => packPixel (rgb fmt e) c
  | none => rgb fmt e

end Sys2Proof.Machine
end

