-- ==== Sys2Proof/Certificates/Slice0/Obligations.lean ====
section
/-!
DEFINITION. The statements about the block, made from the numbered rules of the spec. Each docstring names the rule.
-/

open Sys2Proof Sys2Proof.Machine

/-! ### The command byte and the step -/

/-- 30 R72: the sixteen legal command bytes, each with its operation. -/
def Obligations.CommandBytesNameTheirOperations : Prop :=
  decode 0x01 = .ok .cmp ∧ decode 0x09 = .ok .dcmp ∧ decode 0x02 = .ok .pack
    ∧ decode 0x03 = .ok (.embed .rgb) ∧ decode 0x13 = .ok (.embed .rgba)
    ∧ decode 0x05 = .ok (.encode .rgb) ∧ decode 0x15 = .ok (.encode .rgba) ∧ decode 0x0A = .ok .unpk
    ∧ decode 0x0B = .ok (.extract .rgb) ∧ decode 0x1B = .ok (.extract .rgba)
    ∧ decode 0x0D = .ok (.decode .rgb) ∧ decode 0x1D = .ok (.decode .rgba)
    ∧ decode 0x06 = .ok (.norm .rgb) ∧ decode 0x16 = .ok (.norm .rgba)
    ∧ decode 0x04 = .ok .utf8e ∧ decode 0x0C = .ok .utf8d

/-- 30 R71 to R73: decoding the byte of a well-formed operation gives it back, and a byte that decodes to an operation is
that operation's byte. -/
def Obligations.DecodeAndEncodeAgree : Prop :=
  (∀ i : Instr, i.wf = true → decode (encode i) = .ok i)
    ∧ ∀ (b : Byte) (i : Instr), decode b = .ok i → i.wf = true ∧ encode i = b

/-- 30 R75, 60 R170: which bytes are illegal, how many, and what an illegal command does: `STATUS` takes 0x84, no result
exists, and nothing else of the state is written, whatever the operands. That no earlier result is among the results then is
DEDUCED from 10 R26 and 60 R177, log 11. -/
def Obligations.IllegalCommandsAreTheOther240 : Prop :=
  (∀ b : Byte, (∃ i, decode b = .ok i) ↔ b ∈ legalCommandBytes)
    ∧ (∀ b : Byte, (∃ e, decode b = .error e) ↔
        b.extractLsb' 5 3 ≠ 0 ∨ b.extractLsb' 0 4 ∈ [0x0#4, 0x7#4, 0x8#4, 0xE#4, 0xF#4]
          ∨ (b.getLsbD 4 = true ∧ b.extractLsb' 0 4 ∈ [0x1#4, 0x9#4, 0x2#4, 0xA#4, 0x4#4, 0xC#4]))
    ∧ ((List.range 256).filter fun n => (decode? (BitVec.ofNat 8 n)).isSome).length = 16
    ∧ ((List.range 256).filter fun n => (decode? (BitVec.ofNat 8 n)).isNone).length = 240
    ∧ decode? 0x00 = none
    ∧ ∀ (s : State) (e : Illegal), s.pending = true → decode s.cmd = .error e →
        step s = .next { s with status := 0x84, rslt := Results.absent, pending := false }

/-- 00 R2, 10 R20, 70 R191: a presented legal command runs as its operation, wherever its byte came from, and a block to
which no command was presented executes nothing. That an idle block takes a step at all is the model's choice (log 1). -/
def Obligations.StepRunsTheDecodedOperation : Prop :=
  (∀ (s : State) (i : Instr), s.pending = true → decode s.cmd = .ok i → step s = exec i s)
    ∧ (∀ (s : State) (nbits w : Nat) (i : Instr), decodeTableWord nbits w = some i →
        step (s.withFetchWord nbits w) = exec i (s.withFetchWord nbits w))
    ∧ (∀ (s : State) (nbits w : Nat), s.withFetchWord nbits w
        = { s with cmd := BitVec.ofNat 8 (w % 2 ^ nbits), pending := true })
    ∧ (∀ s : State, s.pending = false → step s = .next s)

/-- 60 R182 with 30 R74: every operation ends, in a next state, with one of its own outcomes, and the block is ready for the
next command. -/
def Obligations.EveryOperationEndsInOneOfItsOutcomes : Prop :=
  ∀ (i : Instr) (s : State), ∃ t, exec i s = .next t ∧ t.pending = false ∧ t.status ∈ outcomesOf i

/-! ### Reset and the invariant -/

/-- 10 R31, 70 R191: what reset leaves of the values the spec gives. -/
def Obligations.ResetIsIdleWithoutResults : Prop :=
  State.reset.status = 0x00 ∧ faultBit State.reset.status = false ∧ State.reset.rslt = Results.absent
    ∧ State.reset.pending = false ∧ step State.reset = .next State.reset

/-- 70 R190: reset applied in any state leaves `STATUS` idle and no result, abandons a presented operation without outcome,
leaves the operand buffers intact, and cannot be told afterwards from no reset but by `STATUS`. -/
def Obligations.ResetAbandonsAndIsForgotten : Prop :=
  ∀ s : State, (applyReset s).status = 0x00 ∧ (applyReset s).rslt = Results.absent ∧ (applyReset s).pending = false
    ∧ (applyReset s).opnd = s.opnd ∧ step (applyReset s) = .next (applyReset s)
    ∧ ∀ (r : Request) (t u : State), step (present r (applyReset s)) = .next t → step (present r s) = .next u →
        observed t = observed u

/-- The invariant holds after reset. -/
def Obligations.ResetMeetsTheInvariant : Prop := State.reset.Inv = true

/-- 30 R78, 60 R166, 20 R56: every step keeps the invariant: the status is one of the eight values, exactly one result
exists where the operation succeeded and none where it did not, and an `OUT` grid has `W * H` pixels. -/
def Obligations.StepKeepsTheInvariant : Prop :=
  ∀ s t : State, s.Inv = true → step s = .next t → t.Inv = true

/-! ### The carrier format -/

/-- 30 R63: the cut of the carrier byte over the three channels, 3, 2 and 3 bits, most significant first. -/
def Obligations.CarrierByteIsCutThreeTwoThree : Prop :=
  ∀ (p : Pixel) (c : Byte),
    packPixel p c
        = { r := p.r.extractLsb' 3 5 ++ c.extractLsb' 5 3
            g := p.g.extractLsb' 2 6 ++ c.extractLsb' 3 2
            b := p.b.extractLsb' 3 5 ++ c.extractLsb' 0 3 }
      ∧ unpackPixel p = p.r.extractLsb' 0 3 ++ p.g.extractLsb' 0 2 ++ p.b.extractLsb' 0 3

/-- 30 R64, R65, R66: the formulas with their constants, the audit of the constants, and the source's own property that
confirms the pair. -/
def Obligations.MasksAndShiftsAgree : Prop :=
  (∀ r g b c : Byte, packPixel { r := r, g := g, b := b } c
        = { r := (r &&& 0xF8) ||| ((c &&& 0xE0) >>> 5)
            g := (g &&& 0xFC) ||| ((c &&& 0x18) >>> 3)
            b := (b &&& 0xF8) ||| ((c &&& 0x07) >>> 0) })
    ∧ (∀ r g b : Byte, unpackPixel { r := r, g := g, b := b }
        = ((r &&& 0x07) <<< 5) ||| ((g &&& 0x03) <<< 3) ||| ((b &&& 0x07) <<< 0))
    ∧ (0xE0#8 &&& 0x18#8 = 0 ∧ 0xE0#8 &&& 0x07#8 = 0 ∧ 0x18#8 &&& 0x07#8 = 0)
    ∧ 0xE0#8 ||| 0x18#8 ||| 0x07#8 = 0xFF#8
    ∧ (0xE0#8 >>> 5 = 0x07#8 ∧ 0x18#8 >>> 3 = 0x03#8 ∧ 0x07#8 >>> 0 = 0x07#8)
    ∧ (0xF8#8 = 0xFF#8 - 0x07#8 ∧ 0xFC#8 = 0xFF#8 - 0x03#8)
    ∧ ((List.range 8).filter (0x07#8).getLsbD).length = 3 ∧ ((List.range 8).filter (0x03#8).getLsbD).length = 2
    ∧ 3 + 2 + 3 = 8
    ∧ ∀ r g b c : Byte, unpackPixel (packPixel { r := r, g := g, b := b } c) = c

/-- 30 R67: the formulas as arithmetic on natural numbers, and the bounds by which no shift loses a bit. -/
def Obligations.DatapathIsUnsignedArithmetic : Prop :=
  ∀ (p : Pixel) (c : Byte),
    (packPixel p c).r.toNat = 8 * (p.r.toNat / 8) + c.toNat / 32
      ∧ (packPixel p c).g.toNat = 4 * (p.g.toNat / 4) + c.toNat / 8 % 4
      ∧ (packPixel p c).b.toNat = 8 * (p.b.toNat / 8) + c.toNat % 8
      ∧ (unpackPixel p).toNat = 32 * (p.r.toNat % 8) + 8 * (p.g.toNat % 4) + p.b.toNat % 8
      ∧ ((c &&& 0xE0) >>> 5).toNat ≤ 7 ∧ ((c &&& 0x18) >>> 3).toNat ≤ 3 ∧ (c &&& 0x07).toNat ≤ 7
      ∧ ((p.r &&& 0x07) <<< 5).toNat ≤ 0xE0 ∧ ((p.g &&& 0x03) <<< 3).toNat ≤ 0x18 ∧ (p.b &&& 0x07).toNat ≤ 0x07

/-- 30 R68 and 41 R101: injection changes a red or blue channel by at most 7 and a green one by at most 3, and keeps the
high bits. -/
def Obligations.InjectionIsSmallAndKeepsHighBits : Prop :=
  ∀ (p : Pixel) (c : Byte),
    ((packPixel p c).r.toNat ≤ p.r.toNat + 7 ∧ p.r.toNat ≤ (packPixel p c).r.toNat + 7)
      ∧ ((packPixel p c).g.toNat ≤ p.g.toNat + 3 ∧ p.g.toNat ≤ (packPixel p c).g.toNat + 3)
      ∧ ((packPixel p c).b.toNat ≤ p.b.toNat + 7 ∧ p.b.toNat ≤ (packPixel p c).b.toNat + 7)
      ∧ (packPixel p c).r.extractLsb' 3 5 = p.r.extractLsb' 3 5
      ∧ (packPixel p c).g.extractLsb' 2 6 = p.g.extractLsb' 2 6
      ∧ (packPixel p c).b.extractLsb' 3 5 = p.b.extractLsb' 3 5

/-- 41 R102: extraction inverts injection. -/
def Obligations.ExtractionInvertsInjection : Prop :=
  ∀ (p : Pixel) (c : Byte), unpackPixel (packPixel p c) = c

/-- 41 R103: the last injection wins, and injection is idempotent. -/
def Obligations.LastInjectionWins : Prop :=
  ∀ (p : Pixel) (c₁ c₂ : Byte), packPixel (packPixel p c₁) c₂ = packPixel p c₂
    ∧ packPixel (packPixel p c₁) c₁ = packPixel p c₁

/-- 41 R104: injecting what is already there changes nothing, and nothing else leaves the pixel unchanged: one byte value
in 256. -/
def Obligations.InjectingTheHeldByteChangesNothing : Prop :=
  ∀ p : Pixel, packPixel p (unpackPixel p) = p ∧ (∀ c : Byte, packPixel p c = p ↔ c = unpackPixel p)
    ∧ ∃! c : Byte, packPixel p c = p

/-- 42 R126: extraction reads the slots only, is onto, and each byte is the image of the 2^16 pixels given by the five, six
and five bits that are no slots. -/
def Obligations.ExtractionReadsTheSlotsOnly : Prop :=
  (∀ p q : Pixel, sameSlots p q → unpackPixel p = unpackPixel q)
    ∧ (∀ c : Byte, ∃ p : Pixel, unpackPixel p = c)
    ∧ ∀ (c : Byte) (p : Pixel), unpackPixel p = c ↔
        ∃! k : BitVec 5 × BitVec 6 × BitVec 5,
          p = { r := k.1 ++ c.extractLsb' 5 3, g := k.2.1 ++ c.extractLsb' 3 2, b := k.2.2 ++ c.extractLsb' 0 3 }

/-! ### PACK and UNPK -/

/-- 41 R100: PACK on every operand word. The whole next state: the registers take the replaced channels and the byte, `RES`
takes the pixel, nothing else is written (logs 9 and 11). -/
def Obligations.PackInjectsTheByteIntoThePixel : Prop :=
  ∀ s : State,
    let red : Byte := s.opnd.imm.extractLsb' 27 5 ++ s.opnd.imm.extractLsb' 5 3
    let grn : Byte := s.opnd.imm.extractLsb' 18 6 ++ s.opnd.imm.extractLsb' 3 2
    let blu : Byte := s.opnd.imm.extractLsb' 11 5 ++ s.opnd.imm.extractLsb' 0 3
    exec .pack s = .next
      { s with
        status := 0x01
        pending := false
        dp := { red := red, grn := grn, blu := blu, c := s.opnd.imm.extractLsb' 0 8, i := s.dp.i }
        rslt := { Results.absent with res := some (.pixel (red ++ grn ++ blu)) } }

/-- 42 R125: UNPK on every operand word. The whole next state: the registers take the pixel and the byte in its slots, `RES`
takes the byte, nothing else is written (logs 9 and 11). -/
def Obligations.UnpkExtractsTheByteOfThePixel : Prop :=
  ∀ s : State,
    let c : Byte := s.opnd.imm.extractLsb' 16 3 ++ s.opnd.imm.extractLsb' 8 2 ++ s.opnd.imm.extractLsb' 0 3
    exec .unpk s = .next
      { s with
        status := 0x01
        pending := false
        dp :=
          { red := s.opnd.imm.extractLsb' 16 8, grn := s.opnd.imm.extractLsb' 8 8, blu := s.opnd.imm.extractLsb' 0 8,
            c := c, i := s.dp.i }
        rslt := { Results.absent with res := some (.byte c) } }

/-! ### The compressor adapter -/

/-- 40 R92, R93: what follows from the named properties, for every compressor: a stream is never empty, the empty input is
corrupt, compression is injective, and the set of streams is prefix-free. -/
def Obligations.CompressedStreamsArePrefixFree : Prop :=
  ∀ K : Compressor, (∀ x, K.compress x ≠ []) ∧ K.decompress [] = none
    ∧ (∀ x y, K.compress x = K.compress y → x = y)
    ∧ ∀ x y, K.compress y <+: K.compress x → x = y

/-- 40 R85: CMP on every `PLAIN`. The whole next state (log 11), and `DATA` is never empty. -/
def Obligations.CmpDeliversTheCompressedBytes : Prop :=
  ∀ s : State,
    exec .cmp s = .next
        { s with
          status := 0x01
          pending := false
          rslt := { Results.absent with data := some (Config.params.K.compress s.opnd.plain) } }
      ∧ Config.params.K.compress s.opnd.plain ≠ []

/-- 40 R86 with R89, R91, R92: DCMP succeeds on a complete stream whatever follows it, faults on a proper prefix of a stream
and on the empty input, and does on every input what the decompressor says. The whole next state each time (log 11). -/
def Obligations.DcmpStopsAtTheEndOfTheStream : Prop :=
  ∀ s : State,
    (∀ q, Config.params.K.decompress s.opnd.data = some q →
        exec .dcmp s
          = .next { s with status := 0x01, pending := false, rslt := { Results.absent with plain := some q } })
      ∧ (Config.params.K.decompress s.opnd.data = none →
        exec .dcmp s = .next { s with status := 0x82, pending := false, rslt := Results.absent })
      ∧ (∀ x t, s.opnd.data = Config.params.K.compress x ++ t →
        exec .dcmp s
          = .next { s with status := 0x01, pending := false, rslt := { Results.absent with plain := some x } })
      ∧ (∀ x, s.opnd.data <+: Config.params.K.compress x → s.opnd.data ≠ Config.params.K.compress x →
        exec .dcmp s = .next { s with status := 0x82, pending := false, rslt := Results.absent })
      ∧ (s.opnd.data = [] →
        exec .dcmp s = .next { s with status := 0x82, pending := false, rslt := Results.absent })

/-! ### EMBED and ENCODE -/

/-- 41 R105, R108: a successful EMBED, pixel by pixel. -/
def Obligations.EmbedWritesTheBytesIntoTheGrid : Prop :=
  ∀ (fmt : Fmt) (s : State), s.opnd.src.length = s.w * s.h → s.opnd.data.length ≤ s.w * s.h →
    ∃ (t : State) (g : Grid), exec (.embed fmt) s = .next t ∧ t.status = 0x01 ∧ t.pending = false
      ∧ t.rslt = { Results.absent with out := some g } ∧ g.w = s.w ∧ g.h = s.h ∧ g.px.length = s.w * s.h
      ∧ (∀ (i : Nat) (c : Byte) (e : SrcElem), s.opnd.data[i]? = some c → s.opnd.src[i]? = some e →
          g.px[i]? = some (packPixel (rgb fmt e) c))
      ∧ (∀ (i : Nat) (e : SrcElem), s.opnd.data.length ≤ i → s.opnd.src[i]? = some e → g.px[i]? = some (rgb fmt e))

/-- 41 R106, R111: the capacity check compares the length of `DATA` with `W * H` and is strict. `LEN = N` passes,
`LEN = N + 1` faults before any pixel is read, and a grid without pixels takes the empty `DATA` only. That the fault comes
after `N` and `LEN` are set and leaves `I` and the working registers is DEDUCED from the pseudocode of 41 R105 and R112,
log 9. -/
def Obligations.CapacityCheckIsStrict : Prop :=
  ∀ (fmt : Fmt) (s : State), s.opnd.src.length = s.w * s.h →
    ((∃ t, exec (.embed fmt) s = .next t ∧ t.status = 0x01) ↔ s.opnd.data.length ≤ s.w * s.h)
      ∧ (s.w * s.h < s.opnd.data.length → exec (.embed fmt) s = .next
          { s with
            n := s.w * s.h, len := s.opnd.data.length, status := 0x81, pending := false, rslt := Results.absent })
      ∧ (s.opnd.data.length = s.w * s.h → ∃ t g, exec (.embed fmt) s = .next t ∧ t.rslt.out = some g
          ∧ g.px = List.zipWith (fun e c => packPixel (rgb fmt e) c) s.opnd.src s.opnd.data)
      ∧ (s.w * s.h = 0 → ((∃ t, exec (.embed fmt) s = .next t ∧ t.status = 0x01 ∧ t.rslt.out = some ⟨s.w, s.h, []⟩)
          ↔ s.opnd.data = []))

/-- 41 R110: with empty `DATA` the capacity check passes for every grid and `OUT` is the image unmodified; the case does not
arise inside ENCODE. -/
def Obligations.EmptyDataLeavesTheImage : Prop :=
  (∀ (fmt : Fmt) (s : State), s.opnd.src.length = s.w * s.h → s.opnd.data = [] →
      ∃ t, exec (.embed fmt) s = .next t ∧ t.status = 0x01
        ∧ t.rslt.out = some { w := s.w, h := s.h, px := s.opnd.src.map (rgb fmt) })
    ∧ ∀ (fmt : Fmt) (s t : State), exec (.encode fmt) s = .next t → t.status = 0x01 → 0 < t.len

/-- 41 R109: the guarantees of a successful EMBED. (a) Pixels beyond the payload are unchanged. (b) The pixels below `LEN`
are computed by PACK. (c) At most `LEN` pixels differ. (d) High bits are kept. (e) EXTRACT of `OUT` gives `DATA` first.
(f) Embedding the same `DATA` into `OUT` gives `OUT` again. -/
def Obligations.EmbedGuarantees : Prop :=
  ∀ (fmt : Fmt) (s t : State) (g : Grid), exec (.embed fmt) s = .next t → t.rslt.out = some g →
    g.px.drop s.opnd.data.length = (s.opnd.src.map (rgb fmt)).drop s.opnd.data.length
      ∧ (∀ (i : Nat) (c : Byte) (e : SrcElem), s.opnd.data[i]? = some c → s.opnd.src[i]? = some e →
          g.px[i]? = some (packPixel (rgb fmt e) c))
      ∧ ((List.zip g.px (s.opnd.src.map (rgb fmt))).filter fun q => decide (q.1 ≠ q.2)).length ≤ s.opnd.data.length
      ∧ (∀ (i : Nat) (p : Pixel) (e : SrcElem), g.px[i]? = some p → s.opnd.src[i]? = some e →
          p.r.extractLsb' 3 5 = (rgb fmt e).r.extractLsb' 3 5 ∧ p.g.extractLsb' 2 6 = (rgb fmt e).g.extractLsb' 2 6
            ∧ p.b.extractLsb' 3 5 = (rgb fmt e).b.extractLsb' 3 5)
      ∧ (∀ u : State, u.opnd.src = asSource g.px → u.w * u.h = g.w * g.h →
          ∃ v raw, exec (.extract .rgb) u = .next v ∧ v.rslt.raw = some raw
            ∧ raw.take s.opnd.data.length = s.opnd.data)
      ∧ (∀ u : State, u.opnd.src = asSource g.px → u.opnd.data = s.opnd.data → u.w = g.w → u.h = g.h →
          ∃ v, exec (.embed .rgb) u = .next v ∧ v.rslt.out = some g)

/-- 41 R115, R118: ENCODE carries a text exactly when its compressed bytes are no more than the pixels. On success `OUT` is
the embedding of those bytes; otherwise it is the capacity fault, as EMBED's (41 R106). What that fault leaves in the
registers is DEDUCED from the pseudocode of 41 R105, R112 and R115, log 9. -/
def Obligations.EncodeCarriesTheTextThatFits : Prop :=
  ∀ (fmt : Fmt) (s : State), s.opnd.src.length = s.w * s.h →
    let data := Config.params.K.compress (utf8Encode s.opnd.txt)
    (data.length ≤ s.w * s.h →
      ∃ (t : State) (g : Grid), exec (.encode fmt) s = .next t ∧ t.status = 0x01 ∧ t.pending = false
        ∧ t.rslt = { Results.absent with out := some g } ∧ g.w = s.w ∧ g.h = s.h ∧ g.px.length = s.w * s.h
        ∧ (∀ (i : Nat) (c : Byte) (e : SrcElem), data[i]? = some c → s.opnd.src[i]? = some e →
            g.px[i]? = some (packPixel (rgb fmt e) c))
        ∧ (∀ (i : Nat) (e : SrcElem), data.length ≤ i → s.opnd.src[i]? = some e → g.px[i]? = some (rgb fmt e)))
      ∧ (s.w * s.h < data.length → exec (.encode fmt) s = .next
          { s with n := s.w * s.h, len := data.length, status := 0x81, pending := false, rslt := Results.absent })

/-- 41 R116: ENCODE equals its expansion, the stages run one after the other, with the intermediate buffers not delivered
and the descriptor checked once, first. -/
def Obligations.EncodeEqualsItsStages : Prop :=
  ∀ (fmt : Fmt) (s s₁ s₂ s₃ t : State) (plain data : Bytes),
    exec .utf8e s = .next s₁ → s₁.rslt.plain = some plain →
    exec .cmp (withPlain plain s) = .next s₂ → s₂.rslt.data = some data →
    exec (.embed fmt) (withData data s) = .next s₃ →
    exec (.encode fmt) s = .next t →
      observed t = observed s₃ ∧ t.rslt.plain = none ∧ t.rslt.data = none
        ∧ (s.opnd.src.length ≠ s.w * s.h → t.status = 0x85)

/-- 10 R16, R18, R23, R24: the registers after a successful EMBED or ENCODE: `N` and `LEN` hold the counts, `I` has reached
`N`, the channels are those of the last pixel written, and `C` is the last byte injected, or untouched where there was
none. DEDUCED, log 9. -/
def Obligations.EmbedRegistersAfterTheTraversal : Prop :=
  ∀ (fmt : Fmt) (s t : State) (data : Bytes) (g : Grid),
    (data = s.opnd.data ∧ exec (.embed fmt) s = .next t
        ∨ data = Config.params.K.compress (utf8Encode s.opnd.txt) ∧ exec (.encode fmt) s = .next t) →
      t.rslt.out = some g →
      t.n = s.w * s.h ∧ t.len = data.length ∧ t.dp.i = s.w * s.h
        ∧ (∀ p, g.px.getLast? = some p → t.dp.red = p.r ∧ t.dp.grn = p.g ∧ t.dp.blu = p.b)
        ∧ (g.px = [] → t.dp.red = s.dp.red ∧ t.dp.grn = s.dp.grn ∧ t.dp.blu = s.dp.blu)
        ∧ (∀ c, data.getLast? = some c → t.dp.c = c) ∧ (data = [] → t.dp.c = s.dp.c)

/-- 41 R112: the per-pixel realisation of EMBED, at any parameters. The start step ends the operation where a check fails,
the descriptor before the capacity. Otherwise `N` and `LEN` are set, after `k` pixel steps `I = k` and the first `k` elements
hold their final value and the others none, nothing else of the block has changed but the working registers, so the host
sees nothing of it; exactly one of the pixel step and the end step is enabled; and after `N` steps the end gives the state
the whole operation gives. That the faults leave `I` and the working registers is DEDUCED, log 9. -/
def Obligations.EmbedSequencerAgrees : Prop :=
  ∀ (p : Params) (fmt : Fmt) (s : State),
    ((s.opnd.src.length ≠ s.w * s.h ∨ ∃ k, p.indexWidth = some k ∧ 2 ^ k ≤ s.w * s.h) →
        embedSeqStart p s.opnd.data s
          = .ended { s with status := 0x85, pending := false, rslt := Results.absent })
      ∧ (s.opnd.src.length = s.w * s.h → (∀ k, p.indexWidth = some k → s.w * s.h < 2 ^ k) →
        (s.w * s.h < s.opnd.data.length →
            embedSeqStart p s.opnd.data s
              = .ended
                { s with
                  n := s.w * s.h, len := s.opnd.data.length, status := 0x81, pending := false
                  rslt := Results.absent })
          ∧ (s.opnd.data.length ≤ s.w * s.h → ∃ q₀, embedSeqStart p s.opnd.data s = .running q₀
            ∧ ∀ k, k ≤ s.w * s.h → ∃ (q : SeqState Pixel) (d : Datapath),
              seqSteps (embedPixel fmt s.opnd.data) k q₀ = some q
                ∧ q.st = { s with n := s.w * s.h, len := s.opnd.data.length, dp := d } ∧ d.i = k
                ∧ q.buf = ((s.opnd.src.mapIdx (embedElement fmt s.opnd.data)).take k).map some
                    ++ List.replicate (s.w * s.h - k) none
                ∧ ((seqStep (embedPixel fmt s.opnd.data) q).isSome = true ↔ k < s.w * s.h)
                ∧ ((seqEnd embedSeqResult q).isSome = true ↔ k = s.w * s.h)
                ∧ (k = s.w * s.h → seqEnd embedSeqResult q = some (effect p (.embed fmt) s))))

/-! ### EXTRACT and DECODE -/

/-- 42 R130, R131: EXTRACT gives one byte for every pixel, the byte in its slots. What the registers then hold, on a grid
without pixels too, is DEDUCED from 42 R130 with 10 R16, R18 and R23, log 9. -/
def Obligations.ExtractReadsAByteFromEveryPixel : Prop :=
  ∀ (fmt : Fmt) (s : State), s.opnd.src.length = s.w * s.h →
    ∃ (t : State) (raw : Bytes), exec (.extract fmt) s = .next t ∧ t.status = 0x01 ∧ t.pending = false
      ∧ t.rslt = { Results.absent with raw := some raw } ∧ raw.length = s.w * s.h
      ∧ (∀ (i : Nat) (e : SrcElem), s.opnd.src[i]? = some e → raw[i]? = some (unpackPixel (rgb fmt e)))
      ∧ t.n = s.w * s.h ∧ t.dp.i = s.w * s.h
      ∧ (∀ e, s.opnd.src.getLast? = some e →
          t.dp.red = (rgb fmt e).r ∧ t.dp.grn = (rgb fmt e).g ∧ t.dp.blu = (rgb fmt e).b
            ∧ t.dp.c = unpackPixel (rgb fmt e))
      ∧ (s.opnd.src = [] →
          t.dp.red = s.dp.red ∧ t.dp.grn = s.dp.grn ∧ t.dp.blu = s.dp.blu ∧ t.dp.c = s.dp.c)

/-- 42 R133: EXTRACT of the output of a successful EMBED gives `DATA` and then the bytes the untouched pixels hold. -/
def Obligations.ExtractInvertsEmbed : Prop :=
  ∀ (fmt : Fmt) (s t u v : State) (g : Grid), exec (.embed fmt) s = .next t → t.rslt.out = some g →
    u.opnd.src = asSource g.px → u.w * u.h = g.w * g.h → exec (.extract .rgb) u = .next v →
      ∃ noise : Bytes, v.rslt.raw = some (s.opnd.data ++ noise) ∧ noise.length = s.w * s.h - s.opnd.data.length
        ∧ ∀ (j : Nat) (e : SrcElem), s.opnd.src[s.opnd.data.length + j]? = some e →
            noise[j]? = some (unpackPixel (rgb fmt e))

/-- 42 R135: the per-pixel realisation of EXTRACT, at any parameters. The start step ends the operation where the
descriptor check fails. Otherwise `N` is set, after `k` pixel steps `I = k` and the first `k` bytes hold their final value
and the others none, nothing else of the block has changed but the working registers; exactly one of the pixel step and the
end step is enabled; and after `N` steps the end gives the state the whole operation gives. That the fault leaves `N`, `I`
and the working registers is DEDUCED, log 9. -/
def Obligations.ExtractSequencerAgrees : Prop :=
  ∀ (p : Params) (fmt : Fmt) (s : State),
    ((s.opnd.src.length ≠ s.w * s.h ∨ ∃ k, p.indexWidth = some k ∧ 2 ^ k ≤ s.w * s.h) →
        extractSeqStart p s = .ended { s with status := 0x85, pending := false, rslt := Results.absent })
      ∧ (s.opnd.src.length = s.w * s.h → (∀ k, p.indexWidth = some k → s.w * s.h < 2 ^ k) →
        ∃ q₀, extractSeqStart p s = .running q₀
          ∧ ∀ k, k ≤ s.w * s.h → ∃ (q : SeqState Byte) (d : Datapath),
            seqSteps (extractPixel fmt) k q₀ = some q
              ∧ q.st = { s with n := s.w * s.h, dp := d } ∧ d.i = k
              ∧ q.buf = ((slotBytes fmt s.opnd.src).take k).map some ++ List.replicate (s.w * s.h - k) none
              ∧ ((seqStep (extractPixel fmt) q).isSome = true ↔ k < s.w * s.h)
              ∧ ((seqEnd extractSeqResult q).isSome = true ↔ k = s.w * s.h)
              ∧ (k = s.w * s.h → seqEnd extractSeqResult q = some (effect p (.extract fmt) s)))

/-- 42 R138, R139, R140, R145: DECODE of a well-formed descriptor ends with exactly one of the tagged results: the text, or
"not watermarked" without any result, which is no fault. The registers are those EXTRACT leaves (10 R16),
which is DEDUCED, log 9. -/
def Obligations.DecodeAnswersATaggedResult : Prop :=
  ∀ (fmt : Fmt) (s : State), s.opnd.src.length = s.w * s.h →
    ∃ t, exec (.decode fmt) s = .next t ∧ t.pending = false ∧ faultBit t.status = false
      ∧ (∀ plain txt, Config.params.K.decompress (slotBytes fmt s.opnd.src) = some plain → utf8Decode plain = some txt →
          t.status = 0x01 ∧ t.rslt = { Results.absent with txto := some txt })
      ∧ (∀ plain, Config.params.K.decompress (slotBytes fmt s.opnd.src) = some plain → utf8Decode plain = none →
          t.status = 0x02 ∧ t.rslt = Results.absent)
      ∧ (Config.params.K.decompress (slotBytes fmt s.opnd.src) = none →
          t.status = 0x02 ∧ t.rslt = Results.absent)
      ∧ t.n = s.w * s.h ∧ ∀ u, exec (.extract fmt) s = .next u → t.dp = u.dp

/-- 42 R146: DECODE equals its expansion, EXTRACT, DCMP on the whole of `RAW`, UTF8D, with the two stage faults mapped to
"not watermarked", the intermediate buffers not delivered, and the descriptor checked once, first. -/
def Obligations.DecodeEqualsItsStages : Prop :=
  ∀ (fmt : Fmt) (s s₁ t : State), exec (.extract fmt) s = .next s₁ → exec (.decode fmt) s = .next t →
    t.rslt.raw = none ∧ t.rslt.plain = none
      ∧ (s.opnd.src.length ≠ s.w * s.h → t.status = 0x85)
      ∧ ∀ raw s₂, s₁.rslt.raw = some raw → exec .dcmp (withData raw s) = .next s₂ →
          (s₂.status = 0x82 → observed t = (0x02, Results.absent))
            ∧ ∀ plain s₃, s₂.rslt.plain = some plain →
                exec .utf8d (withPlain plain s) = .next s₃ →
                (s₃.status = 0x83 → observed t = (0x02, Results.absent))
                  ∧ (s₃.status = 0x01 → observed t = observed s₃)

/-- 42 R141: the round trip. A text whose compressed bytes fit is encoded, and decoding the output gives it back. -/
def Obligations.DecodeOfEncodeRecoversTheText : Prop :=
  ∀ (fmt : Fmt) (s : State), s.opnd.src.length = s.w * s.h →
    (Config.params.K.compress (utf8Encode s.opnd.txt)).length ≤ s.w * s.h →
      ∃ t g, exec (.encode fmt) s = .next t ∧ t.status = 0x01 ∧ t.rslt.out = some g
        ∧ ∀ u : State, u.opnd.src = asSource g.px → u.w * u.h = g.w * g.h →
          ∃ v, exec (.decode .rgb) u = .next v ∧ v.status = 0x01
            ∧ v.rslt = { Results.absent with txto := some s.opnd.txt }

/-- 41 R117, 42 R142: the empty text is embedded as at least one byte, and decoding the output gives the empty text, which
is not "not watermarked". -/
def Obligations.EmptyTextIsRecovered : Prop :=
  ∀ (fmt : Fmt) (s : State), s.opnd.txt = [] → s.opnd.src.length = s.w * s.h →
    (Config.params.K.compress []).length ≤ s.w * s.h →
      ∃ t g, exec (.encode fmt) s = .next t ∧ t.rslt.out = some g ∧ 1 ≤ t.len
        ∧ ∀ u : State, u.opnd.src = asSource g.px → u.w * u.h = g.w * g.h →
          ∃ v, exec (.decode .rgb) u = .next v ∧ v.status = 0x01 ∧ v.status ≠ StatusCode.notWatermarked.code
            ∧ v.rslt = { Results.absent with txto := some [] }

/-- 42 R144 (a), (c): a carrier that agrees with an ENCODE output in the slots of the first `LEN` pixels, in either format
and whatever follows, decodes to the same text; one that keeps fewer than `LEN` pixels, in order, is "not watermarked". -/
def Obligations.AlteredCarriersDecodeByTheirSlots : Prop :=
  ∀ (fmt fmt' : Fmt) (s t v v' : State) (g : Grid), exec (.encode fmt) s = .next t → t.rslt.out = some g →
    v.opnd.src.length = v.w * v.h →
    (∀ (i : Nat) (p : Pixel) (e : SrcElem), i < t.len → g.px[i]? = some p → v.opnd.src[i]? = some e →
        sameSlots p (rgb fmt' e)) →
    exec (.decode fmt') v = .next v' →
      (t.len ≤ v.opnd.src.length → v'.status = 0x01 ∧ v'.rslt = { Results.absent with txto := some s.opnd.txt })
        ∧ (v.opnd.src.length < t.len → v'.status = 0x02 ∧ v'.rslt = Results.absent)

/-- 92 D14, 41 R111, 42 R138: a grid without pixels: no text fits, and there is no watermark. -/
def Obligations.GridWithoutPixelsHoldsNoText : Prop :=
  ∀ (fmt : Fmt) (s : State), s.opnd.src = [] → s.w * s.h = 0 →
    (∃ t, exec (.encode fmt) s = .next t ∧ t.status = 0x81)
      ∧ (∃ t, exec (.decode fmt) s = .next t ∧ t.status = 0x02 ∧ t.rslt = Results.absent)

/-- 42 R143: what DECODE returns for an image never watermarked is whatever its slots spell. With the test compressor an
image whose pixel 0 has all eight slot bits 0 decodes to the empty text. -/
def Obligations.UnwatermarkedImageCanDecodeToText : Prop :=
  ∀ (fmt : Fmt) (s : State) (e : SrcElem), s.opnd.src.length = s.w * s.h → s.opnd.src.head? = some e →
    unpackPixel (rgb fmt e) = 0x00 →
      observed (effect Config.testParams (.decode fmt) s) = (0x01, { Results.absent with txto := some [] })

/-! ### The boundary stages -/

/-- 43 R150: NORM copies the grid without its alpha, the colour channels unchanged; with `FMT = 0` it is the identity copy.
`N` and `I` are those of the traversal, which is DEDUCED, log 10; no other register is written. -/
def Obligations.NormDropsAlpha : Prop :=
  ∀ (fmt : Fmt) (s : State), s.opnd.src.length = s.w * s.h →
    ∃ (t : State) (g : Grid), exec (.norm fmt) s = .next t
      ∧ t = { s with
          status := 0x01, pending := false, n := s.w * s.h, dp := { s.dp with i := s.w * s.h }
          rslt := { Results.absent with out := some g } }
      ∧ g.w = s.w ∧ g.h = s.h ∧ g.px.length = s.w * s.h
      ∧ (∀ (i : Nat) (p : Pixel), fmt = .rgb → s.opnd.src[i]? = some (.rgb p) → g.px[i]? = some p)
      ∧ (∀ (i : Nat) (p : Pixel4), fmt = .rgba → s.opnd.src[i]? = some (.rgba p) →
          g.px[i]? = some { r := p.r, g := p.g, b := p.b })

/-- 43 R151: a grid operation with `FMT = 1` equals NORM followed by the same operation with `FMT = 0`. -/
def Obligations.AlphaFormsEqualNormFirst : Prop :=
  ∀ (s t u v : State) (g : Grid) (op : Fmt → Instr), op ∈ [Instr.embed, Instr.encode, Instr.extract, Instr.decode] →
    exec (.norm .rgba) s = .next t → t.rslt.out = some g →
    exec (op .rgba) s = .next u →
    exec (op .rgb) (withSource (asSource g.px) s) = .next v →
      observed u = observed v

/-- 43 R155: UTF8E on every text. The whole next state (log 11). -/
def Obligations.Utf8eDeliversTheEncoding : Prop :=
  ∀ s : State, exec .utf8e s = .next
    { s with status := 0x01, pending := false, rslt := { Results.absent with plain := some (utf8Encode s.opnd.txt) } }

/-- 43 R158: UTF8D on every byte sequence: the text of a valid one, `INVALID_UTF8` without any text for another. The whole
next state (log 11). -/
def Obligations.Utf8dDeliversTheTextOrFaults : Prop :=
  ∀ s : State,
    (∀ t, s.opnd.plain = utf8Encode t →
        exec .utf8d s
          = .next { s with status := 0x01, pending := false, rslt := { Results.absent with txto := some t } })
      ∧ ((∀ t, s.opnd.plain ≠ utf8Encode t) →
        exec .utf8d s = .next { s with status := 0x83, pending := false, rslt := Results.absent })

/-- 43 R156: the encoder's table: the encoding of a text is that of its scalar values in order, each in the shortest form,
its bits most significant first. -/
def Obligations.Utf8EncodesInTheShortestForm : Prop :=
  (∀ t u : Text, utf8Encode (t ++ u) = utf8Encode t ++ utf8Encode u)
    ∧ ∀ ch : Char,
      let v := BitVec.ofNat 21 ch.toNat
      (ch.toNat < 0x80 → utf8Encode [ch] = [(0b0#1 ++ v.extractLsb' 0 7 : Byte)])
        ∧ (0x80 ≤ ch.toNat → ch.toNat < 0x800 → utf8Encode [ch]
            = [(0b110#3 ++ v.extractLsb' 6 5 : Byte), (0b10#2 ++ v.extractLsb' 0 6 : Byte)])
        ∧ (0x800 ≤ ch.toNat → ch.toNat < 0x10000 → utf8Encode [ch]
            = [(0b1110#4 ++ v.extractLsb' 12 4 : Byte), (0b10#2 ++ v.extractLsb' 6 6 : Byte),
                (0b10#2 ++ v.extractLsb' 0 6 : Byte)])
        ∧ (0x10000 ≤ ch.toNat → utf8Encode [ch]
            = [(0b11110#5 ++ v.extractLsb' 18 3 : Byte), (0b10#2 ++ v.extractLsb' 12 6 : Byte),
                (0b10#2 ++ v.extractLsb' 6 6 : Byte), (0b10#2 ++ v.extractLsb' 0 6 : Byte)])

/-- 43 R160: the UTF-8 round trip, and the encoder is injective. -/
def Obligations.Utf8RoundTrip : Prop :=
  (∀ t : Text, utf8Decode (utf8Encode t) = some t) ∧ ∀ t u : Text, utf8Encode t = utf8Encode u → t = u

/-- 43 R159: the decoder is strict: it returns a text exactly when the bytes are that text's encoding, so a byte 0xC0, 0xC1
or 0xF5 to 0xFF anywhere, or a continuation byte at a start, is invalid. -/
def Obligations.Utf8DecoderIsStrict : Prop :=
  (∀ (b : Bytes) (t : Text), utf8Decode b = some t ↔ b = utf8Encode t)
    ∧ (∀ (b : Bytes) (x : Byte), x ∈ b → (x = 0xC0 ∨ x = 0xC1 ∨ 0xF5 ≤ x.toNat) → utf8Decode b = none)
    ∧ ∀ (x : Byte) (b : Bytes), 0x80 ≤ x.toNat → x.toNat ≤ 0xBF → utf8Decode (x :: b) = none

/-! ### Faults, order of checks, statelessness -/

/-- 60 R171, R172, R176: the descriptor is checked before any stage, at any index width: a grid operation whose `SRC` does
not have `W * H` elements, or whose pixel count does not fit the index width, ends in `BAD_DESCRIPTOR` and writes nothing
else, whatever `DATA`, `TXT` or the pixels are (logs 9 and 11). -/
def Obligations.BadDescriptorPrecedesTheStages : Prop :=
  ∀ (p : Params) (i : Instr) (s : State), i.takesGrid = true →
    (s.opnd.src.length ≠ s.w * s.h ∨ ∃ k, p.indexWidth = some k ∧ 2 ^ k ≤ s.w * s.h) →
      effect p i s = { s with status := 0x85, pending := false, rslt := Results.absent }

/-- 60 R172: the other half: with the index width unbounded no grid is refused for its size, and at a width `k` a grid of
fewer than `2^k` pixels is not. The descriptor of `exec` is refused for its shape only. -/
def Obligations.DescriptorThatFitsIsAccepted : Prop :=
  ∀ (p : Params) (i : Instr) (s : State), i.takesGrid = true → s.opnd.src.length = s.w * s.h →
    (∀ k, p.indexWidth = some k → s.w * s.h < 2 ^ k) →
      (effect p i s).status ≠ 0x85 ∧ ∀ t, exec i s = .next t → t.status ≠ 0x85

/-- 60 R166: no partial results: an operation that faults delivers nothing but its status, and the operand buffers are as
they were. -/
def Obligations.FaultsDeliverNothingButTheStatus : Prop :=
  ∀ (i : Instr) (s t : State), exec i s = .next t → faultBit t.status = true →
    t.rslt = Results.absent ∧ t.opnd = s.opnd ∧ t.pending = false

/-- 10 R30, R17; 60 R178, R179: the outcome of an operation, its results included, is a function of what the host presents:
it does not depend on any earlier operation, on the value of any register before it, or on `STATUS`, at any parameters. -/
def Obligations.OutcomeDependsOnTheRequestAlone : Prop :=
  (∀ (p : Params) (r : Request) (s t : State), observed (serve p s r) = observed (serve p t r))
    ∧ ∀ (r : Request) (s t s' t' : State), step (present r s) = .next s' → step (present r t) = .next t' →
        observed s' = observed t'

/-- 70 R201: only the linear order of the pixels matters: with the same operands and the same `W * H`, every grid operation
ends alike and writes the same pixels and bytes. -/
def Obligations.OnlyTheLinearOrderMatters : Prop :=
  ∀ (i : Instr) (s t s' t' : State), i.takesGrid = true → s.opnd = t.opnd → s.w * s.h = t.w * t.h →
    exec i s = .next s' → exec i t = .next t' →
      s'.status = t'.status ∧ s'.rslt.raw = t'.rslt.raw ∧ s'.rslt.txto = t'.rslt.txto
        ∧ s'.rslt.out.map Grid.px = t'.rslt.out.map Grid.px

/-! ### Frames -/

/-- 10 R16, R24; 20 R41: the frame of the adapter and text stages CMP, DCMP, UTF8E and UTF8D: no register but `STATUS` and
no operand buffer changes. -/
def Obligations.StageOperationsKeepTheRegisters : Prop :=
  ∀ (i : Instr) (s t : State), i ∈ [Instr.cmp, Instr.dcmp, Instr.utf8e, Instr.utf8d] → exec i s = .next t →
    t.dp = s.dp ∧ t.cmd = s.cmd ∧ t.w = s.w ∧ t.h = s.h ∧ t.n = s.n ∧ t.len = s.len ∧ t.opnd = s.opnd

/-- 10 R16, R18; 20 R41: the frame of PACK and UNPK: beside the four working registers and `STATUS` nothing changes, `I`
among it. -/
def Obligations.SlotOperationsKeepTheRest : Prop :=
  ∀ (i : Instr) (s t : State), i ∈ [Instr.pack, Instr.unpk] → exec i s = .next t →
    t.dp.i = s.dp.i ∧ t.cmd = s.cmd ∧ t.w = s.w ∧ t.h = s.h ∧ t.n = s.n ∧ t.len = s.len ∧ t.opnd = s.opnd

/-- 10 R16, R20, R22, R24; 20 R41: the frame of the grid operations: `CMD`, `W`, `H` and every operand buffer are unchanged;
`LEN` is written by EMBED and ENCODE alone; NORM writes no working register; and an operation that a check ends before its
traversal leaves the working registers and `I`, and before its descriptor is accepted `N` and `LEN` too, which is DEDUCED
from the order of 41 R105, R112, 42 R135 and 60 R176, log 9. -/
def Obligations.GridOperationsKeepTheRest : Prop :=
  ∀ (i : Instr) (s t : State), i.takesGrid = true → exec i s = .next t →
    t.cmd = s.cmd ∧ t.w = s.w ∧ t.h = s.h ∧ t.opnd = s.opnd
      ∧ (∀ fmt, i = .extract fmt ∨ i = .decode fmt ∨ i = .norm fmt → t.len = s.len)
      ∧ (∀ fmt, i = .norm fmt → { t.dp with i := s.dp.i } = s.dp)
      ∧ (t.status = 0x81 ∨ t.status = 0x85 → t.dp = s.dp)
      ∧ (t.status = 0x85 → t.n = s.n ∧ t.len = s.len)

/-! ### Buffers -/

/-- 20 R42: the row-major index is a bijection between the positions of a grid and its elements. -/
def Obligations.RowMajorIndexIsABijection : Prop :=
  ∀ w h : Nat,
    (∀ x y, x < w → y < h → rowMajor w x y < w * h ∧ rowMajor w x y / w = y ∧ rowMajor w x y % w = x)
      ∧ (∀ i, i < w * h → i % w < w ∧ i / w < h ∧ rowMajor w (i % w) (i / w) = i)
      ∧ ∀ (px : List Pixel) (x y : Nat), px.length = w * h → x < w → y < h →
          pixelAt { w := w, h := h, px := px } x y = px[y * w + x]? ∧ (px[y * w + x]?).isSome = true

/-- 20 R48: the flattened layout: element `i` of an RGB buffer at bytes `3i` to `3i + 2`, of an RGBA buffer at `4i` to
`4i + 3`, and the words `{r, g, b}` and `{r, g, b, a}`. -/
def Obligations.FlattenedLayoutIsRedGreenBlueAlpha : Prop :=
  (∀ (px : List Pixel) (i : Nat) (p : Pixel), px[i]? = some p →
      (flatten (px.map .rgb))[3 * i]? = some p.r ∧ (flatten (px.map .rgb))[3 * i + 1]? = some p.g
        ∧ (flatten (px.map .rgb))[3 * i + 2]? = some p.b)
    ∧ (∀ (px : List Pixel4) (i : Nat) (p : Pixel4), px[i]? = some p →
      (flatten (px.map .rgba))[4 * i]? = some p.r ∧ (flatten (px.map .rgba))[4 * i + 1]? = some p.g
        ∧ (flatten (px.map .rgba))[4 * i + 2]? = some p.b ∧ (flatten (px.map .rgba))[4 * i + 3]? = some p.a)
    ∧ (∀ p : Pixel, (pixelWord p).extractLsb' 16 8 = p.r ∧ (pixelWord p).extractLsb' 8 8 = p.g
        ∧ (pixelWord p).extractLsb' 0 8 = p.b)
    ∧ ∀ p : Pixel4, (pixel4Word p).extractLsb' 24 8 = p.r ∧ (pixel4Word p).extractLsb' 16 8 = p.g
        ∧ (pixel4Word p).extractLsb' 8 8 = p.b ∧ (pixel4Word p).extractLsb' 0 8 = p.a

/-! ### The per-pixel realisation as a whole -/

/-- 41 R112, 92 D23: from every state, whatever its operands, the run of start, `N` pixel steps and end is EMBED: it is never
stuck, it ends in the same state as the whole operation, the faults and every register included, and at the machine's own
parameters that state is the one `exec` answers. -/
def Obligations.EmbedSequencerIsTheOperation : Prop :=
  ∀ (fmt : Fmt) (s : State), (∀ p : Params, embedSeqRun p fmt s = some (effect p (.embed fmt) s))
    ∧ ∃ t, exec (.embed fmt) s = .next t ∧ embedSeqRun Config.params fmt s = some t

/-- 42 R135, 92 D23: from every state, whatever its operands, the run of start, `N` pixel steps and end is EXTRACT, in the
same way. -/
def Obligations.ExtractSequencerIsTheOperation : Prop :=
  ∀ (fmt : Fmt) (s : State), (∀ p : Params, extractSeqRun p fmt s = some (effect p (.extract fmt) s))
    ∧ ∃ t, exec (.extract fmt) s = .next t ∧ extractSeqRun Config.params fmt s = some t
end

