-- ==== Sys2Proof/Laws/State.lean ====
section
/-!
SUPPORT. The small lemmas of every update of the state and of the datapath: one for each field, true by rfl, so that no
later proof unfolds a record update.
-/

namespace Sys2Proof.Machine

/-! `endOperation` -/

@[simp] theorem endOperation_dp (code : StatusCode) (r : Results) (s : State) : (endOperation code r s).dp = s.dp := rfl
@[simp] theorem endOperation_cmd (code : StatusCode) (r : Results) (s : State) : (endOperation code r s).cmd = s.cmd := rfl
@[simp] theorem endOperation_w (code : StatusCode) (r : Results) (s : State) : (endOperation code r s).w = s.w := rfl
@[simp] theorem endOperation_h (code : StatusCode) (r : Results) (s : State) : (endOperation code r s).h = s.h := rfl
@[simp] theorem endOperation_n (code : StatusCode) (r : Results) (s : State) : (endOperation code r s).n = s.n := rfl
@[simp] theorem endOperation_len (code : StatusCode) (r : Results) (s : State) : (endOperation code r s).len = s.len := rfl
@[simp] theorem endOperation_status (code : StatusCode) (r : Results) (s : State) : (endOperation code r s).status = code.code := rfl
@[simp] theorem endOperation_pending (code : StatusCode) (r : Results) (s : State) : (endOperation code r s).pending = false := rfl
@[simp] theorem endOperation_opnd (code : StatusCode) (r : Results) (s : State) : (endOperation code r s).opnd = s.opnd := rfl
@[simp] theorem endOperation_rslt (code : StatusCode) (r : Results) (s : State) : (endOperation code r s).rslt = r := rfl

/-! `deliver` -/

@[simp] theorem deliver_dp (r : Results) (s : State) : (deliver r s).dp = s.dp := rfl
@[simp] theorem deliver_cmd (r : Results) (s : State) : (deliver r s).cmd = s.cmd := rfl
@[simp] theorem deliver_w (r : Results) (s : State) : (deliver r s).w = s.w := rfl
@[simp] theorem deliver_h (r : Results) (s : State) : (deliver r s).h = s.h := rfl
@[simp] theorem deliver_n (r : Results) (s : State) : (deliver r s).n = s.n := rfl
@[simp] theorem deliver_len (r : Results) (s : State) : (deliver r s).len = s.len := rfl
@[simp] theorem deliver_status (r : Results) (s : State) : (deliver r s).status = 0x01 := rfl
@[simp] theorem deliver_pending (r : Results) (s : State) : (deliver r s).pending = false := rfl
@[simp] theorem deliver_opnd (r : Results) (s : State) : (deliver r s).opnd = s.opnd := rfl
@[simp] theorem deliver_rslt (r : Results) (s : State) : (deliver r s).rslt = r := rfl

/-! `raiseFault` -/

@[simp] theorem raiseFault_dp (f : FaultCode) (s : State) : (raiseFault f s).dp = s.dp := rfl
@[simp] theorem raiseFault_cmd (f : FaultCode) (s : State) : (raiseFault f s).cmd = s.cmd := rfl
@[simp] theorem raiseFault_w (f : FaultCode) (s : State) : (raiseFault f s).w = s.w := rfl
@[simp] theorem raiseFault_h (f : FaultCode) (s : State) : (raiseFault f s).h = s.h := rfl
@[simp] theorem raiseFault_n (f : FaultCode) (s : State) : (raiseFault f s).n = s.n := rfl
@[simp] theorem raiseFault_len (f : FaultCode) (s : State) : (raiseFault f s).len = s.len := rfl
@[simp] theorem raiseFault_status (f : FaultCode) (s : State) : (raiseFault f s).status = f.code := rfl
@[simp] theorem raiseFault_pending (f : FaultCode) (s : State) : (raiseFault f s).pending = false := rfl
@[simp] theorem raiseFault_opnd (f : FaultCode) (s : State) : (raiseFault f s).opnd = s.opnd := rfl
@[simp] theorem raiseFault_rslt (f : FaultCode) (s : State) : (raiseFault f s).rslt = Results.absent := rfl

/-! `answerNotWatermarked` -/

@[simp] theorem answerNotWatermarked_dp (s : State) : (answerNotWatermarked s).dp = s.dp := rfl
@[simp] theorem answerNotWatermarked_cmd (s : State) : (answerNotWatermarked s).cmd = s.cmd := rfl
@[simp] theorem answerNotWatermarked_w (s : State) : (answerNotWatermarked s).w = s.w := rfl
@[simp] theorem answerNotWatermarked_h (s : State) : (answerNotWatermarked s).h = s.h := rfl
@[simp] theorem answerNotWatermarked_n (s : State) : (answerNotWatermarked s).n = s.n := rfl
@[simp] theorem answerNotWatermarked_len (s : State) : (answerNotWatermarked s).len = s.len := rfl
@[simp] theorem answerNotWatermarked_status (s : State) : (answerNotWatermarked s).status = 0x02 := rfl
@[simp] theorem answerNotWatermarked_pending (s : State) : (answerNotWatermarked s).pending = false := rfl
@[simp] theorem answerNotWatermarked_opnd (s : State) : (answerNotWatermarked s).opnd = s.opnd := rfl
@[simp] theorem answerNotWatermarked_rslt (s : State) : (answerNotWatermarked s).rslt = Results.absent := rfl

/-! `setDatapath` -/

@[simp] theorem setDatapath_dp (d : Datapath) (s : State) : (setDatapath d s).dp = d := rfl
@[simp] theorem setDatapath_cmd (d : Datapath) (s : State) : (setDatapath d s).cmd = s.cmd := rfl
@[simp] theorem setDatapath_w (d : Datapath) (s : State) : (setDatapath d s).w = s.w := rfl
@[simp] theorem setDatapath_h (d : Datapath) (s : State) : (setDatapath d s).h = s.h := rfl
@[simp] theorem setDatapath_n (d : Datapath) (s : State) : (setDatapath d s).n = s.n := rfl
@[simp] theorem setDatapath_len (d : Datapath) (s : State) : (setDatapath d s).len = s.len := rfl
@[simp] theorem setDatapath_status (d : Datapath) (s : State) : (setDatapath d s).status = s.status := rfl
@[simp] theorem setDatapath_pending (d : Datapath) (s : State) : (setDatapath d s).pending = s.pending := rfl
@[simp] theorem setDatapath_opnd (d : Datapath) (s : State) : (setDatapath d s).opnd = s.opnd := rfl
@[simp] theorem setDatapath_rslt (d : Datapath) (s : State) : (setDatapath d s).rslt = s.rslt := rfl

/-! `setN` -/

@[simp] theorem setN_dp (n : Nat) (s : State) : (setN n s).dp = s.dp := rfl
@[simp] theorem setN_cmd (n : Nat) (s : State) : (setN n s).cmd = s.cmd := rfl
@[simp] theorem setN_w (n : Nat) (s : State) : (setN n s).w = s.w := rfl
@[simp] theorem setN_h (n : Nat) (s : State) : (setN n s).h = s.h := rfl
@[simp] theorem setN_n (n : Nat) (s : State) : (setN n s).n = n := rfl
@[simp] theorem setN_len (n : Nat) (s : State) : (setN n s).len = s.len := rfl
@[simp] theorem setN_status (n : Nat) (s : State) : (setN n s).status = s.status := rfl
@[simp] theorem setN_pending (n : Nat) (s : State) : (setN n s).pending = s.pending := rfl
@[simp] theorem setN_opnd (n : Nat) (s : State) : (setN n s).opnd = s.opnd := rfl
@[simp] theorem setN_rslt (n : Nat) (s : State) : (setN n s).rslt = s.rslt := rfl

/-! `setLen` -/

@[simp] theorem setLen_dp (len : Nat) (s : State) : (setLen len s).dp = s.dp := rfl
@[simp] theorem setLen_cmd (len : Nat) (s : State) : (setLen len s).cmd = s.cmd := rfl
@[simp] theorem setLen_w (len : Nat) (s : State) : (setLen len s).w = s.w := rfl
@[simp] theorem setLen_h (len : Nat) (s : State) : (setLen len s).h = s.h := rfl
@[simp] theorem setLen_n (len : Nat) (s : State) : (setLen len s).n = s.n := rfl
@[simp] theorem setLen_len (len : Nat) (s : State) : (setLen len s).len = len := rfl
@[simp] theorem setLen_status (len : Nat) (s : State) : (setLen len s).status = s.status := rfl
@[simp] theorem setLen_pending (len : Nat) (s : State) : (setLen len s).pending = s.pending := rfl
@[simp] theorem setLen_opnd (len : Nat) (s : State) : (setLen len s).opnd = s.opnd := rfl
@[simp] theorem setLen_rslt (len : Nat) (s : State) : (setLen len s).rslt = s.rslt := rfl

/-! `writeCommand` -/

@[simp] theorem writeCommand_dp (cmd : Byte) (s : State) : (writeCommand cmd s).dp = s.dp := rfl
@[simp] theorem writeCommand_cmd (cmd : Byte) (s : State) : (writeCommand cmd s).cmd = cmd := rfl
@[simp] theorem writeCommand_w (cmd : Byte) (s : State) : (writeCommand cmd s).w = s.w := rfl
@[simp] theorem writeCommand_h (cmd : Byte) (s : State) : (writeCommand cmd s).h = s.h := rfl
@[simp] theorem writeCommand_n (cmd : Byte) (s : State) : (writeCommand cmd s).n = s.n := rfl
@[simp] theorem writeCommand_len (cmd : Byte) (s : State) : (writeCommand cmd s).len = s.len := rfl
@[simp] theorem writeCommand_status (cmd : Byte) (s : State) : (writeCommand cmd s).status = s.status := rfl
@[simp] theorem writeCommand_pending (cmd : Byte) (s : State) : (writeCommand cmd s).pending = true := rfl
@[simp] theorem writeCommand_opnd (cmd : Byte) (s : State) : (writeCommand cmd s).opnd = s.opnd := rfl
@[simp] theorem writeCommand_rslt (cmd : Byte) (s : State) : (writeCommand cmd s).rslt = s.rslt := rfl

/-! `present` -/

@[simp] theorem present_dp (r : Request) (s : State) : (present r s).dp = s.dp := rfl
@[simp] theorem present_cmd (r : Request) (s : State) : (present r s).cmd = r.cmd := rfl
@[simp] theorem present_w (r : Request) (s : State) : (present r s).w = r.w := rfl
@[simp] theorem present_h (r : Request) (s : State) : (present r s).h = r.h := rfl
@[simp] theorem present_n (r : Request) (s : State) : (present r s).n = s.n := rfl
@[simp] theorem present_len (r : Request) (s : State) : (present r s).len = s.len := rfl
@[simp] theorem present_status (r : Request) (s : State) : (present r s).status = s.status := rfl
@[simp] theorem present_pending (r : Request) (s : State) : (present r s).pending = true := rfl
@[simp] theorem present_opnd (r : Request) (s : State) : (present r s).opnd = r.opnd := rfl
@[simp] theorem present_rslt (r : Request) (s : State) : (present r s).rslt = s.rslt := rfl

/-! `applyReset` -/

@[simp] theorem applyReset_dp (s : State) : (applyReset s).dp = State.reset.dp := rfl
@[simp] theorem applyReset_cmd (s : State) : (applyReset s).cmd = 0 := rfl
@[simp] theorem applyReset_w (s : State) : (applyReset s).w = 0 := rfl
@[simp] theorem applyReset_h (s : State) : (applyReset s).h = 0 := rfl
@[simp] theorem applyReset_n (s : State) : (applyReset s).n = 0 := rfl
@[simp] theorem applyReset_len (s : State) : (applyReset s).len = 0 := rfl
@[simp] theorem applyReset_status (s : State) : (applyReset s).status = 0x00 := rfl
@[simp] theorem applyReset_pending (s : State) : (applyReset s).pending = false := rfl
@[simp] theorem applyReset_opnd (s : State) : (applyReset s).opnd = s.opnd := rfl
@[simp] theorem applyReset_rslt (s : State) : (applyReset s).rslt = Results.absent := rfl

/-! `loadPixel` -/

@[simp] theorem loadPixel_red (p : Pixel) (d : Datapath) : (loadPixel p d).red = p.r := rfl
@[simp] theorem loadPixel_grn (p : Pixel) (d : Datapath) : (loadPixel p d).grn = p.g := rfl
@[simp] theorem loadPixel_blu (p : Pixel) (d : Datapath) : (loadPixel p d).blu = p.b := rfl
@[simp] theorem loadPixel_c (p : Pixel) (d : Datapath) : (loadPixel p d).c = d.c := rfl
@[simp] theorem loadPixel_i (p : Pixel) (d : Datapath) : (loadPixel p d).i = d.i := rfl

/-! `loadByte` -/

@[simp] theorem loadByte_red (c : Byte) (d : Datapath) : (loadByte c d).red = d.red := rfl
@[simp] theorem loadByte_grn (c : Byte) (d : Datapath) : (loadByte c d).grn = d.grn := rfl
@[simp] theorem loadByte_blu (c : Byte) (d : Datapath) : (loadByte c d).blu = d.blu := rfl
@[simp] theorem loadByte_c (c : Byte) (d : Datapath) : (loadByte c d).c = c := rfl
@[simp] theorem loadByte_i (c : Byte) (d : Datapath) : (loadByte c d).i = d.i := rfl

/-! `startIndex` -/

@[simp] theorem startIndex_red (d : Datapath) : (startIndex d).red = d.red := rfl
@[simp] theorem startIndex_grn (d : Datapath) : (startIndex d).grn = d.grn := rfl
@[simp] theorem startIndex_blu (d : Datapath) : (startIndex d).blu = d.blu := rfl
@[simp] theorem startIndex_c (d : Datapath) : (startIndex d).c = d.c := rfl
@[simp] theorem startIndex_i (d : Datapath) : (startIndex d).i = 0 := rfl

/-! `advance` -/

@[simp] theorem advance_red (d : Datapath) : (advance d).red = d.red := rfl
@[simp] theorem advance_grn (d : Datapath) : (advance d).grn = d.grn := rfl
@[simp] theorem advance_blu (d : Datapath) : (advance d).blu = d.blu := rfl
@[simp] theorem advance_c (d : Datapath) : (advance d).c = d.c := rfl
@[simp] theorem advance_i (d : Datapath) : (advance d).i = d.i + 1 := rfl

/-! `injectRegs` -/

@[simp] theorem injectRegs_red (d : Datapath) : (injectRegs d).red = injectRed d.red d.c := rfl
@[simp] theorem injectRegs_grn (d : Datapath) : (injectRegs d).grn = injectGreen d.grn d.c := rfl
@[simp] theorem injectRegs_blu (d : Datapath) : (injectRegs d).blu = injectBlue d.blu d.c := rfl
@[simp] theorem injectRegs_c (d : Datapath) : (injectRegs d).c = d.c := rfl
@[simp] theorem injectRegs_i (d : Datapath) : (injectRegs d).i = d.i := rfl

/-! `extractRegs` -/

@[simp] theorem extractRegs_red (d : Datapath) : (extractRegs d).red = d.red := rfl
@[simp] theorem extractRegs_grn (d : Datapath) : (extractRegs d).grn = d.grn := rfl
@[simp] theorem extractRegs_blu (d : Datapath) : (extractRegs d).blu = d.blu := rfl
@[simp] theorem extractRegs_c (d : Datapath) : (extractRegs d).c = unpackPixel (regPixel d) := rfl
@[simp] theorem extractRegs_i (d : Datapath) : (extractRegs d).i = d.i := rfl

/-! The pixel in the registers -/

@[simp] theorem regPixel_loadPixel (p : Pixel) (d : Datapath) : regPixel (loadPixel p d) = p := rfl
@[simp] theorem regPixel_loadByte (c : Byte) (d : Datapath) : regPixel (loadByte c d) = regPixel d := rfl
@[simp] theorem regPixel_advance (d : Datapath) : regPixel (advance d) = regPixel d := rfl
@[simp] theorem regPixel_startIndex (d : Datapath) : regPixel (startIndex d) = regPixel d := rfl
@[simp] theorem regPixel_extractRegs (d : Datapath) : regPixel (extractRegs d) = regPixel d := rfl
@[simp] theorem regPixel_injectRegs (d : Datapath) : regPixel (injectRegs d) = packPixel (regPixel d) d.c := rfl

/-! The single results -/

@[simp] theorem dataResult_data (b : Bytes) : (dataResult b).data = some b := rfl
@[simp] theorem dataResult_plain (b : Bytes) : (dataResult b).plain = none := rfl
@[simp] theorem dataResult_out (b : Bytes) : (dataResult b).out = none := rfl
@[simp] theorem dataResult_raw (b : Bytes) : (dataResult b).raw = none := rfl
@[simp] theorem dataResult_txto (b : Bytes) : (dataResult b).txto = none := rfl
@[simp] theorem dataResult_res (b : Bytes) : (dataResult b).res = none := rfl
@[simp] theorem dataResult_count (b : Bytes) : (dataResult b).count = 1 := rfl
@[simp] theorem dataResult_wf (b : Bytes) : (dataResult b).wf = true := rfl

@[simp] theorem plainResult_data (b : Bytes) : (plainResult b).data = none := rfl
@[simp] theorem plainResult_plain (b : Bytes) : (plainResult b).plain = some b := rfl
@[simp] theorem plainResult_out (b : Bytes) : (plainResult b).out = none := rfl
@[simp] theorem plainResult_raw (b : Bytes) : (plainResult b).raw = none := rfl
@[simp] theorem plainResult_txto (b : Bytes) : (plainResult b).txto = none := rfl
@[simp] theorem plainResult_res (b : Bytes) : (plainResult b).res = none := rfl
@[simp] theorem plainResult_count (b : Bytes) : (plainResult b).count = 1 := rfl
@[simp] theorem plainResult_wf (b : Bytes) : (plainResult b).wf = true := rfl

@[simp] theorem outResult_data (g : Grid) : (outResult g).data = none := rfl
@[simp] theorem outResult_plain (g : Grid) : (outResult g).plain = none := rfl
@[simp] theorem outResult_out (g : Grid) : (outResult g).out = some g := rfl
@[simp] theorem outResult_raw (g : Grid) : (outResult g).raw = none := rfl
@[simp] theorem outResult_txto (g : Grid) : (outResult g).txto = none := rfl
@[simp] theorem outResult_res (g : Grid) : (outResult g).res = none := rfl
@[simp] theorem outResult_count (g : Grid) : (outResult g).count = 1 := rfl
@[simp] theorem outResult_wf (g : Grid) : (outResult g).wf = g.wf := by simp [Results.wf]

@[simp] theorem rawResult_data (b : Bytes) : (rawResult b).data = none := rfl
@[simp] theorem rawResult_plain (b : Bytes) : (rawResult b).plain = none := rfl
@[simp] theorem rawResult_out (b : Bytes) : (rawResult b).out = none := rfl
@[simp] theorem rawResult_raw (b : Bytes) : (rawResult b).raw = some b := rfl
@[simp] theorem rawResult_txto (b : Bytes) : (rawResult b).txto = none := rfl
@[simp] theorem rawResult_res (b : Bytes) : (rawResult b).res = none := rfl
@[simp] theorem rawResult_count (b : Bytes) : (rawResult b).count = 1 := rfl
@[simp] theorem rawResult_wf (b : Bytes) : (rawResult b).wf = true := rfl

@[simp] theorem txtoResult_data (t : Text) : (txtoResult t).data = none := rfl
@[simp] theorem txtoResult_plain (t : Text) : (txtoResult t).plain = none := rfl
@[simp] theorem txtoResult_out (t : Text) : (txtoResult t).out = none := rfl
@[simp] theorem txtoResult_raw (t : Text) : (txtoResult t).raw = none := rfl
@[simp] theorem txtoResult_txto (t : Text) : (txtoResult t).txto = some t := rfl
@[simp] theorem txtoResult_res (t : Text) : (txtoResult t).res = none := rfl
@[simp] theorem txtoResult_count (t : Text) : (txtoResult t).count = 1 := rfl
@[simp] theorem txtoResult_wf (t : Text) : (txtoResult t).wf = true := rfl

@[simp] theorem resResult_data (w : ResWord) : (resResult w).data = none := rfl
@[simp] theorem resResult_plain (w : ResWord) : (resResult w).plain = none := rfl
@[simp] theorem resResult_out (w : ResWord) : (resResult w).out = none := rfl
@[simp] theorem resResult_raw (w : ResWord) : (resResult w).raw = none := rfl
@[simp] theorem resResult_txto (w : ResWord) : (resResult w).txto = none := rfl
@[simp] theorem resResult_res (w : ResWord) : (resResult w).res = some w := rfl
@[simp] theorem resResult_count (w : ResWord) : (resResult w).count = 1 := rfl
@[simp] theorem resResult_wf (w : ResWord) : (resResult w).wf = true := rfl

@[simp] theorem absent_count : Results.absent.count = 0 := rfl
@[simp] theorem absent_wf : Results.absent.wf = true := rfl

end Sys2Proof.Machine
end

