-- ==== Sys2Proof/Laws/Ops.lean ====
section
/-!
SUPPORT. What each shared operation can do, said once: the descriptor check, the traversal, the per-pixel actions and the
stages of the grid operations.
-/

namespace Sys2Proof.Machine

/-! ### The descriptor check -/

/-- With the index width unbounded every pixel count fits (60 R172). -/
theorem fitsIndex_unbounded (p : Params) (hp : p.indexWidth = none) (n : Nat) : fitsIndex p n = true := by
  simp [fitsIndex, hp]

@[simp] theorem fitsIndex_params (n : Nat) : fitsIndex Config.params n = true := rfl

@[simp] theorem fitsIndex_testParams (n : Nat) : fitsIndex Config.testParams n = true := rfl

/-- A good descriptor passes the check. -/
theorem checkDescriptor_good {α : Type} (p : Params) (s : State) (bad good : α) (hs : s.opnd.src.length = s.w * s.h)
    (hf : fitsIndex p (s.w * s.h) = true) : checkDescriptor p s bad good = good := by
  simp [checkDescriptor, hs, hf]

/-- A descriptor of the wrong shape or size does not. -/
theorem checkDescriptor_bad {α : Type} (p : Params) (s : State) (bad good : α)
    (h : s.opnd.src.length ≠ s.w * s.h ∨ fitsIndex p (s.w * s.h) = false) : checkDescriptor p s bad good = bad := by
  rcases h with h | h <;> simp [checkDescriptor, h]

/-- Everything a grid operation can do at its descriptor check: the fault, or the stages under a good descriptor. -/
theorem withDescriptor_cases (p : Params) (run : State → State) (s : State) :
    (s.opnd.src.length = s.w * s.h ∧ fitsIndex p (s.w * s.h) = true ∧ withDescriptor p run s = run s)
      ∨ ((s.opnd.src.length ≠ s.w * s.h ∨ fitsIndex p (s.w * s.h) = false)
        ∧ withDescriptor p run s = raiseFault .badDescriptor s) := by
  by_cases hs : s.opnd.src.length = s.w * s.h
  · cases hf : fitsIndex p (s.w * s.h) with
    | false => exact .inr ⟨.inr rfl, checkDescriptor_bad p s _ _ (.inr hf)⟩
    | true => exact .inl ⟨hs, rfl, checkDescriptor_good p s _ _ hs hf⟩
  · exact .inr ⟨.inl hs, checkDescriptor_bad p s _ _ (.inl hs)⟩

/-- A good descriptor lets the stages run. -/
theorem withDescriptor_good (p : Params) (run : State → State) (s : State) (hs : s.opnd.src.length = s.w * s.h)
    (hf : fitsIndex p (s.w * s.h) = true) : withDescriptor p run s = run s :=
  checkDescriptor_good p s _ _ hs hf

/-- A bad descriptor takes the fault before any stage. -/
theorem withDescriptor_bad (p : Params) (run : State → State) (s : State)
    (h : s.opnd.src.length ≠ s.w * s.h ∨ fitsIndex p (s.w * s.h) = false) :
    withDescriptor p run s = raiseFault .badDescriptor s :=
  checkDescriptor_bad p s _ _ h

/-! ### The traversal -/

section traverse
variable {α : Type} (f : Datapath → SrcElem → Datapath × α)

@[simp] theorem traverse_nil (d : Datapath) : traverse f [] d = (d, []) := rfl

theorem traverse_cons (e : SrcElem) (es : List SrcElem) (d : Datapath) :
    traverse f (e :: es) d
      = ((traverse f es (advance (f d e).1)).1, (f d e).2 :: (traverse f es (advance (f d e).1)).2) := rfl

/-- The result buffer has one element for every pixel (20 R56). -/
@[simp] theorem traverse_length (src : List SrcElem) (d : Datapath) : (traverse f src d).2.length = src.length := by
  induction src generalizing d with
  | nil => rfl
  | cons e es ih => simp [traverse_cons, ih]

/-- A pixel action that leaves `I` alone is done once for each pixel, `I` rising by one each time (10 R18). -/
theorem traverse_index (hf : ∀ d e, (f d e).1.i = d.i) (src : List SrcElem) (d : Datapath) :
    (traverse f src d).1.i = d.i + src.length := by
  induction src generalizing d with
  | nil => rfl
  | cons e es ih => rw [traverse_cons, ih, advance_i, hf, List.length_cons]; omega

/-- Where the element an action writes is a function of `I` and the source element alone, the buffer is that function
element by element. -/
theorem traverse_mapIdx (g : Nat → SrcElem → α) (hf : ∀ d e, (f d e).1.i = d.i) (hg : ∀ d e, (f d e).2 = g d.i e)
    (src : List SrcElem) (d : Datapath) :
    (traverse f src d).2 = src.mapIdx fun k e => g (d.i + k) e := by
  induction src generalizing d with
  | nil => rfl
  | cons e es ih =>
    rw [traverse_cons, ih, hg, List.mapIdx_cons]
    simp [hf, Nat.add_comm, Nat.add_left_comm]

/-- A traversal over an appended source is the two traversals one after the other. -/
theorem traverse_append (xs ys : List SrcElem) (d : Datapath) :
    traverse f (xs ++ ys) d
      = ((traverse f ys (traverse f xs d).1).1, (traverse f xs d).2 ++ (traverse f ys (traverse f xs d).1).2) := by
  induction xs generalizing d with
  | nil => rfl
  | cons e es ih => simp [traverse_cons, ih]

end traverse

/-! ### The per-pixel actions -/

@[simp] theorem embedPixel_i (fmt : Fmt) (data : Bytes) (d : Datapath) (e : SrcElem) :
    (embedPixel fmt data d e).1.i = d.i := by
  unfold embedPixel; dsimp only; split <;> rfl

@[simp] theorem embedPixel_out (fmt : Fmt) (data : Bytes) (d : Datapath) (e : SrcElem) :
    (embedPixel fmt data d e).2 = embedElement fmt data d.i e := by
  unfold embedPixel embedElement; dsimp only; split
  · next h => simp [h]
  · next h => simp [List.getElem?_eq_none (Nat.le_of_not_lt h)]

/-- The pixel in the registers after a step of EMBED is the one it writes. -/
@[simp] theorem embedPixel_regs (fmt : Fmt) (data : Bytes) (d : Datapath) (e : SrcElem) :
    regPixel (embedPixel fmt data d e).1 = embedElement fmt data d.i e := by
  rw [← embedPixel_out fmt data d e]; unfold embedPixel; dsimp only; split <;> rfl

@[simp] theorem extractPixel_i (fmt : Fmt) (d : Datapath) (e : SrcElem) : (extractPixel fmt d e).1.i = d.i := rfl

@[simp] theorem extractPixel_out (fmt : Fmt) (d : Datapath) (e : SrcElem) :
    (extractPixel fmt d e).2 = unpackPixel (rgb fmt e) := rfl

@[simp] theorem normPixel_fst (fmt : Fmt) (d : Datapath) (e : SrcElem) : (normPixel fmt d e).1 = d := rfl

@[simp] theorem normPixel_snd (fmt : Fmt) (d : Datapath) (e : SrcElem) : (normPixel fmt d e).2 = rgb fmt e := rfl

/-- The whole `OUT` of the EMBED traversal. -/
theorem traverse_embed (fmt : Fmt) (data : Bytes) (src : List SrcElem) (d : Datapath) :
    (traverse (embedPixel fmt data) src (startIndex d)).2 = src.mapIdx (embedElement fmt data) := by
  rw [traverse_mapIdx _ (embedElement fmt data) (embedPixel_i fmt data) (embedPixel_out fmt data)]
  simp

/-- The whole `RAW` of the EXTRACT traversal (42 R131). -/
theorem traverse_extract (fmt : Fmt) (src : List SrcElem) (d : Datapath) :
    (traverse (extractPixel fmt) src d).2 = slotBytes fmt src := by
  induction src generalizing d with
  | nil => rfl
  | cons e es ih => rw [traverse_cons, ih]; rfl

/-- The whole `OUT` of the NORM traversal (43 R150). -/
theorem traverse_norm (fmt : Fmt) (src : List SrcElem) (d : Datapath) :
    (traverse (normPixel fmt) src d).2 = src.map (rgb fmt) := by
  induction src generalizing d with
  | nil => rfl
  | cons e es ih => rw [traverse_cons, ih]; rfl

/-! ### The stages -/

/-- Everything the EMBED stage can do. -/
theorem embedStage_cases (fmt : Fmt) (data : Bytes) (s : State) :
    (data.length ≤ s.w * s.h ∧ embedStage fmt data s
        = deliver (outResult { w := s.w, h := s.h, px := s.opnd.src.mapIdx (embedElement fmt data) })
            (setDatapath (traverse (embedPixel fmt data) s.opnd.src (startIndex s.dp)).1
              (setLen data.length (setN (s.w * s.h) s))))
      ∨ (s.w * s.h < data.length
        ∧ embedStage fmt data s = raiseFault .capacityExceeded (setLen data.length (setN (s.w * s.h) s))) := by
  unfold embedStage
  rcases Nat.lt_or_ge (s.w * s.h) data.length with h | h
  · exact .inr ⟨h, by simp [h]⟩
  · refine .inl ⟨h, ?_⟩
    simp [Nat.not_lt.mpr h, traverse_embed]

/-- What the EXTRACT stage answers. -/
theorem extractStage_eq (fmt : Fmt) (s : State) :
    extractStage fmt s
      = (setDatapath (traverse (extractPixel fmt) s.opnd.src (startIndex s.dp)).1 (setN (s.w * s.h) s),
          slotBytes fmt s.opnd.src) := by
  simp [extractStage, traverse_extract]

/-- EXTRACT after the descriptor check. -/
theorem extractDeliver_eq (fmt : Fmt) (s : State) :
    extractDeliver fmt s
      = deliver (rawResult (slotBytes fmt s.opnd.src))
          (setDatapath (traverse (extractPixel fmt) s.opnd.src (startIndex s.dp)).1 (setN (s.w * s.h) s)) := by
  simp [extractDeliver, extractStage_eq]

/-- Everything the stages of DECODE can do. -/
theorem decodeStages_cases (p : Params) (fmt : Fmt) (s : State) :
    (∃ plain t, p.K.decompress (slotBytes fmt s.opnd.src) = some plain ∧ utf8Decode plain = some t
        ∧ decodeStages p fmt s = deliver (txtoResult t) (extractStage fmt s).1)
      ∨ ((p.K.decompress (slotBytes fmt s.opnd.src) = none
          ∨ ∃ plain, p.K.decompress (slotBytes fmt s.opnd.src) = some plain ∧ utf8Decode plain = none)
        ∧ decodeStages p fmt s = answerNotWatermarked (extractStage fmt s).1) := by
  simp only [decodeStages, extractStage_eq]
  cases hk : p.K.decompress (slotBytes fmt s.opnd.src) with
  | none => exact .inr ⟨.inl rfl, rfl⟩
  | some plain =>
    cases hu : utf8Decode plain with
    | none => exact .inr ⟨.inr ⟨plain, rfl, hu⟩, by simp [hu]⟩
    | some t => exact .inl ⟨plain, t, rfl, hu, by simp [hu]⟩

/-- A traversal of NORM only moves `I`. -/
theorem traverse_norm_regs (fmt : Fmt) (src : List SrcElem) (d : Datapath) :
    (traverse (normPixel fmt) src d).1 = { d with i := d.i + src.length } := by
  induction src generalizing d with
  | nil => rfl
  | cons e es ih =>
    rw [traverse_cons, ih]
    simp [advance, Nat.add_comm, Nat.add_left_comm]

/-- NORM after the descriptor check. -/
theorem normStage_eq (fmt : Fmt) (s : State) :
    normStage fmt s
      = deliver (outResult { w := s.w, h := s.h, px := s.opnd.src.map (rgb fmt) })
          (setDatapath { s.dp with i := s.opnd.src.length } (setN (s.w * s.h) s)) := by
  simp [normStage, traverse_norm, traverse_norm_regs, startIndex]

end Sys2Proof.Machine
end

