-- ==== Sys2Proof/Laws/Exec.lean ====
section
/-!
SUPPORT. What `exec` and `step` can answer, said once: always a next state, the one `effect` and `stepWith` give at the
machine's parameters.
-/

namespace Sys2Proof.Machine

/-- `exec` is `effect` at the machine's parameters. -/
theorem exec_eq_effect (i : Instr) (s : State) : exec i s = .next (effect Config.params i s) := by
  cases i <;> rfl

/-- `step` is `stepWith` at the machine's parameters. -/
theorem step_eq_stepWith (s : State) : step s = .next (stepWith Config.params s) := by
  unfold step stepWith
  cases s.pending
  · rfl
  · cases decode s.cmd with
    | ok i => exact exec_eq_effect i s
    | error e => rfl

/-- The one next state of `exec`. -/
theorem exec_next_iff (i : Instr) (s t : State) : exec i s = .next t ↔ t = effect Config.params i s := by
  rw [exec_eq_effect]
  exact ⟨fun h => (Host.Outcome.next.inj h).symm, fun h => h ▸ rfl⟩

/-- The one next state of `step`. -/
theorem step_next_iff (s t : State) : step s = .next t ↔ t = stepWith Config.params s := by
  rw [step_eq_stepWith]
  exact ⟨fun h => (Host.Outcome.next.inj h).symm, fun h => h ▸ rfl⟩

/-- An idle block stays as it is. -/
theorem stepWith_idle (p : Params) (s : State) (h : s.pending = false) : stepWith p s = s := by
  simp [stepWith, h, idle]

/-- A legal command has its operation's effect. -/
theorem stepWith_legal (p : Params) (s : State) (i : Instr) (h : s.pending = true) (hd : decode s.cmd = .ok i) :
    stepWith p s = effect p i s := by
  simp [stepWith, h, hd]

/-- An illegal command takes its fault. -/
theorem stepWith_illegal (p : Params) (s : State) (e : Illegal) (h : s.pending = true) (hd : decode s.cmd = .error e) :
    stepWith p s = raiseFault .illegalCommand s := by
  simp [stepWith, h, hd, illegalCommand]

end Sys2Proof.Machine
end

