-- ==== Sys2Proof/Laws/PerInstr.lean ====
section
/-!
SUPPORT. The family `WordFields`: the fields of every operation's command byte (30 R71). Bits 7:5 are zero, bit 4 is `FMT`,
bit 3 is `DIR`, bits 2:0 are `STG`, and `FMT` is 1 only with an operation that takes a grid (30 R73).
-/

namespace Sys2Proof.Laws.WordFields

/-- What the family says of one operation. -/
def Statement (i : Instr) : Prop :=
  (encode i).extractLsb' 5 3 = 0 ∧ (encode i).getLsbD 4 = i.fmt.bit ∧ (encode i).getLsbD 3 = i.dir
    ∧ (encode i).extractLsb' 0 3 = i.stg ∧ i.wf = true

theorem cmp : Statement .cmp := ⟨rfl, rfl, rfl, rfl, rfl⟩
theorem dcmp : Statement .dcmp := ⟨rfl, rfl, rfl, rfl, rfl⟩
theorem pack : Statement .pack := ⟨rfl, rfl, rfl, rfl, rfl⟩
theorem embed (fmt : Fmt) : Statement (.embed fmt) := by cases fmt <;> exact ⟨rfl, rfl, rfl, rfl, rfl⟩
theorem encode (fmt : Fmt) : Statement (.encode fmt) := by cases fmt <;> exact ⟨rfl, rfl, rfl, rfl, rfl⟩
theorem unpk : Statement .unpk := ⟨rfl, rfl, rfl, rfl, rfl⟩
theorem extract (fmt : Fmt) : Statement (.extract fmt) := by cases fmt <;> exact ⟨rfl, rfl, rfl, rfl, rfl⟩
theorem decode (fmt : Fmt) : Statement (.decode fmt) := by cases fmt <;> exact ⟨rfl, rfl, rfl, rfl, rfl⟩
theorem norm (fmt : Fmt) : Statement (.norm fmt) := by cases fmt <;> exact ⟨rfl, rfl, rfl, rfl, rfl⟩
theorem utf8e : Statement .utf8e := ⟨rfl, rfl, rfl, rfl, rfl⟩
theorem utf8d : Statement .utf8d := ⟨rfl, rfl, rfl, rfl, rfl⟩

end Sys2Proof.Laws.WordFields
end

