-- ==== Sys2Proof/Laws/Safety.lean ====
section
/-!
SUPPORT. The small lemmas of the states the statements name: another operand presented, nothing else changed.
-/

namespace Sys2Proof.Machine

@[simp] theorem withData_dp (b : Bytes) (s : State) : (withData b s).dp = s.dp := rfl
@[simp] theorem withData_cmd (b : Bytes) (s : State) : (withData b s).cmd = s.cmd := rfl
@[simp] theorem withData_w (b : Bytes) (s : State) : (withData b s).w = s.w := rfl
@[simp] theorem withData_h (b : Bytes) (s : State) : (withData b s).h = s.h := rfl
@[simp] theorem withData_n (b : Bytes) (s : State) : (withData b s).n = s.n := rfl
@[simp] theorem withData_len (b : Bytes) (s : State) : (withData b s).len = s.len := rfl
@[simp] theorem withData_status (b : Bytes) (s : State) : (withData b s).status = s.status := rfl
@[simp] theorem withData_pending (b : Bytes) (s : State) : (withData b s).pending = s.pending := rfl
@[simp] theorem withData_rslt (b : Bytes) (s : State) : (withData b s).rslt = s.rslt := rfl
@[simp] theorem withData_opnd_txt (b : Bytes) (s : State) : (withData b s).opnd.txt = s.opnd.txt := rfl
@[simp] theorem withData_opnd_src (b : Bytes) (s : State) : (withData b s).opnd.src = s.opnd.src := rfl
@[simp] theorem withData_opnd_data (b : Bytes) (s : State) : (withData b s).opnd.data = b := rfl
@[simp] theorem withData_opnd_plain (b : Bytes) (s : State) : (withData b s).opnd.plain = s.opnd.plain := rfl
@[simp] theorem withData_opnd_imm (b : Bytes) (s : State) : (withData b s).opnd.imm = s.opnd.imm := rfl

@[simp] theorem withPlain_dp (b : Bytes) (s : State) : (withPlain b s).dp = s.dp := rfl
@[simp] theorem withPlain_cmd (b : Bytes) (s : State) : (withPlain b s).cmd = s.cmd := rfl
@[simp] theorem withPlain_w (b : Bytes) (s : State) : (withPlain b s).w = s.w := rfl
@[simp] theorem withPlain_h (b : Bytes) (s : State) : (withPlain b s).h = s.h := rfl
@[simp] theorem withPlain_n (b : Bytes) (s : State) : (withPlain b s).n = s.n := rfl
@[simp] theorem withPlain_len (b : Bytes) (s : State) : (withPlain b s).len = s.len := rfl
@[simp] theorem withPlain_status (b : Bytes) (s : State) : (withPlain b s).status = s.status := rfl
@[simp] theorem withPlain_pending (b : Bytes) (s : State) : (withPlain b s).pending = s.pending := rfl
@[simp] theorem withPlain_rslt (b : Bytes) (s : State) : (withPlain b s).rslt = s.rslt := rfl
@[simp] theorem withPlain_opnd_txt (b : Bytes) (s : State) : (withPlain b s).opnd.txt = s.opnd.txt := rfl
@[simp] theorem withPlain_opnd_src (b : Bytes) (s : State) : (withPlain b s).opnd.src = s.opnd.src := rfl
@[simp] theorem withPlain_opnd_data (b : Bytes) (s : State) : (withPlain b s).opnd.data = s.opnd.data := rfl
@[simp] theorem withPlain_opnd_plain (b : Bytes) (s : State) : (withPlain b s).opnd.plain = b := rfl
@[simp] theorem withPlain_opnd_imm (b : Bytes) (s : State) : (withPlain b s).opnd.imm = s.opnd.imm := rfl

@[simp] theorem withSource_dp (src : List SrcElem) (s : State) : (withSource src s).dp = s.dp := rfl
@[simp] theorem withSource_cmd (src : List SrcElem) (s : State) : (withSource src s).cmd = s.cmd := rfl
@[simp] theorem withSource_w (src : List SrcElem) (s : State) : (withSource src s).w = s.w := rfl
@[simp] theorem withSource_h (src : List SrcElem) (s : State) : (withSource src s).h = s.h := rfl
@[simp] theorem withSource_n (src : List SrcElem) (s : State) : (withSource src s).n = s.n := rfl
@[simp] theorem withSource_len (src : List SrcElem) (s : State) : (withSource src s).len = s.len := rfl
@[simp] theorem withSource_status (src : List SrcElem) (s : State) : (withSource src s).status = s.status := rfl
@[simp] theorem withSource_pending (src : List SrcElem) (s : State) : (withSource src s).pending = s.pending := rfl
@[simp] theorem withSource_rslt (src : List SrcElem) (s : State) : (withSource src s).rslt = s.rslt := rfl
@[simp] theorem withSource_opnd_txt (src : List SrcElem) (s : State) : (withSource src s).opnd.txt = s.opnd.txt := rfl
@[simp] theorem withSource_opnd_src (src : List SrcElem) (s : State) : (withSource src s).opnd.src = src := rfl
@[simp] theorem withSource_opnd_data (src : List SrcElem) (s : State) : (withSource src s).opnd.data = s.opnd.data := rfl
@[simp] theorem withSource_opnd_plain (src : List SrcElem) (s : State) : (withSource src s).opnd.plain = s.opnd.plain := rfl
@[simp] theorem withSource_opnd_imm (src : List SrcElem) (s : State) : (withSource src s).opnd.imm = s.opnd.imm := rfl

end Sys2Proof.Machine
end

