-- ==== Sys2Proof/Laws/Sequencer.lean ====
section
/-!
SUPPORT. What the per-pixel realisation of a grid operation holds after its start, after each number of pixel steps and at
its end (41 R112, 42 R135).
-/

namespace Sys2Proof.Machine

/-! ### The start steps -/

@[simp] theorem seqOpen_st {α : Type} (s : State) :
    (seqOpen s : SeqState α).st = setDatapath (startIndex s.dp) s := rfl

@[simp] theorem seqOpen_buf {α : Type} (s : State) : (seqOpen s : SeqState α).buf = List.replicate s.n none := rfl

/-- A bad descriptor ends EMBED at its start. -/
theorem embedSeqStart_bad (p : Params) (data : Bytes) (s : State)
    (h : s.opnd.src.length ≠ s.w * s.h ∨ fitsIndex p (s.w * s.h) = false) :
    embedSeqStart p data s = .ended (raiseFault .badDescriptor s) :=
  checkDescriptor_bad p s _ _ h

/-- Under a good descriptor too many bytes end EMBED at its start. -/
theorem embedSeqStart_full (p : Params) (data : Bytes) (s : State) (hs : s.opnd.src.length = s.w * s.h)
    (hf : fitsIndex p (s.w * s.h) = true) (h : s.w * s.h < data.length) :
    embedSeqStart p data s = .ended (raiseFault .capacityExceeded (setLen data.length (setN (s.w * s.h) s))) := by
  rw [embedSeqStart, checkDescriptor_good p s _ _ hs hf]
  simp [h]

/-- Otherwise the pixel steps of EMBED may run. -/
theorem embedSeqStart_running (p : Params) (data : Bytes) (s : State) (hs : s.opnd.src.length = s.w * s.h)
    (hf : fitsIndex p (s.w * s.h) = true) (h : data.length ≤ s.w * s.h) :
    embedSeqStart p data s = .running (seqOpen (setLen data.length (setN (s.w * s.h) s))) := by
  rw [embedSeqStart, checkDescriptor_good p s _ _ hs hf]
  simp [Nat.not_lt.mpr h]

/-- A bad descriptor ends EXTRACT at its start. -/
theorem extractSeqStart_bad (p : Params) (s : State)
    (h : s.opnd.src.length ≠ s.w * s.h ∨ fitsIndex p (s.w * s.h) = false) :
    extractSeqStart p s = .ended (raiseFault .badDescriptor s) :=
  checkDescriptor_bad p s _ _ h

/-- Otherwise the pixel steps of EXTRACT may run. -/
theorem extractSeqStart_running (p : Params) (s : State) (hs : s.opnd.src.length = s.w * s.h)
    (hf : fitsIndex p (s.w * s.h) = true) : extractSeqStart p s = .running (seqOpen (setN (s.w * s.h) s)) :=
  checkDescriptor_good p s _ _ hs hf

/-! ### The pixel steps and the end -/

section sequencer
variable {α : Type} (f : Datapath → SrcElem → Datapath × α)

/-- The last of `k + 1` pixel steps comes after the first `k`. -/
theorem seqSteps_succ (k : Nat) (q : SeqState α) : seqSteps f (k + 1) q = (seqSteps f k q).bind (seqStep f) := by
  induction k generalizing q with
  | zero => unfold seqSteps; cases h : seqStep f q <;> simp [seqSteps, h]
  | succ k ih =>
    rw [seqSteps]
    cases h : seqStep f q with
    | none => simp [seqSteps, h]
    | some q' => simp only [ih q']; rw [seqSteps]; simp only [h]

/-- Where every pixel step is made on `SRC` of `N` elements: after `k` of them the registers and the written elements are
those of the traversal of the first `k` pixels, and nothing else of the block has changed. -/
theorem seqSteps_open (hf : ∀ d e, (f d e).1.i = d.i) (s : State) (hn : s.opnd.src.length = s.n) (k : Nat)
    (hk : k ≤ s.n) :
    seqSteps f k (seqOpen s) = some
      { st := setDatapath (traverse f (s.opnd.src.take k) (startIndex s.dp)).1 s
        buf := ((traverse f (s.opnd.src.take k) (startIndex s.dp)).2.map some) ++ List.replicate (s.n - k) none } := by
  induction k with
  | zero => simp [seqSteps, seqOpen]
  | succ k ih =>
    have hlt : k < s.n := hk
    have hks : k < s.opnd.src.length := by omega
    have hi : (traverse f (s.opnd.src.take k) (startIndex s.dp)).1.i = k := by
      rw [traverse_index f hf]; simp; omega
    have hrep : List.replicate (s.n - k) (none : Option α) = none :: List.replicate (s.n - (k + 1)) none := by
      rw [show s.n - k = (s.n - (k + 1)) + 1 by omega, List.replicate_succ]
    rw [seqSteps_succ, ih (Nat.le_of_lt hlt), Option.bind_some, List.take_succ_eq_append_getElem hks, traverse_append]
    simp only [seqStep, setDatapath, hi, hlt, if_true, List.getElem?_eq_getElem hks, traverse_cons, traverse_nil, hrep]
    simp [Nat.min_eq_left (Nat.le_of_lt hks)]

/-- The end step delivers the whole buffer once `I` has reached `N` and every element is written. -/
theorem seqEnd_full (result : State → List α → Results) (s : State) (hi : s.dp.i = s.n) (l : List α) :
    seqEnd result { st := s, buf := l.map some } = some (deliver (result s l) s) := by
  have hm : (l.map some).mapM id = some l := by
    induction l with
    | nil => rfl
    | cons a l ih => simp [List.mapM_cons, ih]
  simp [seqEnd, hi, hm]

/-- The whole run from an opened buffer: the traversal of `SRC`, and its buffer delivered. -/
theorem seqRun_open (hf : ∀ d e, (f d e).1.i = d.i) (result : State → List α → Results) (s : State)
    (hn : s.opnd.src.length = s.n) :
    seqRun f result (.running (seqOpen s))
      = some
        (deliver
          (result (setDatapath (traverse f s.opnd.src (startIndex s.dp)).1 s) (traverse f s.opnd.src (startIndex s.dp)).2)
          (setDatapath (traverse f s.opnd.src (startIndex s.dp)).1 s)) := by
  have hi : (traverse f s.opnd.src (startIndex s.dp)).1.i = s.n := by
    rw [traverse_index f hf]; simp [hn]
  have hs := seqSteps_open f hf s hn s.n (Nat.le_refl _)
  rw [List.take_of_length_le (Nat.le_of_eq hn), Nat.sub_self, List.replicate_zero, List.append_nil] at hs
  simp only [seqRun, seqOpen_st, setDatapath_n, hs]
  exact seqEnd_full result _ hi _

end sequencer

end Sys2Proof.Machine
end

