-- ==== Sys2Proof/Tests/Slice0.lean ====
section
/-!
SUPPORT. The model's own tests. Expected results are the spec's vectors (95), each named in its comment, or are worked from
a rule; where a vector needs a compressor it is `T0` (`Config.testParams`). The witnesses at the end show, for every
statement with hypotheses, a state and operands that meet them.
-/

namespace Sys2Proof.Tests

open Sys2Proof Sys2Proof.Machine

/-! ### Helpers -/

/-- A request for a grid operation. -/
def gridRequest (cmd : Byte) (w h : Nat) (src : List SrcElem) (data : Bytes) (txt : Text) : Request where
  cmd := cmd
  w := w
  h := h
  opnd := { Operands.initial with src := src, data := data, txt := txt }

/-- A request for an operation that takes no grid. -/
def plainRequest (cmd : Byte) (o : Operands) : Request where
  cmd := cmd
  w := 0
  h := 0
  opnd := o

/-- What the host observes after one request from reset, with `K = T0`. -/
def run (r : Request) : Byte × Results := observed (serve Config.testParams State.reset r)

/-- `S4` of 95 section 2.5. -/
def s4 : List Pixel := [⟨0xFF, 0xFF, 0xFF⟩, ⟨0x00, 0x00, 0x00⟩, ⟨0x12, 0x34, 0x56⟩, ⟨0x80, 0x80, 0x80⟩]

/-- The `OUT` of V-EMB-1. -/
def out1 : List Pixel := [⟨0xFB, 0xFD, 0xF8⟩, ⟨0x03, 0x01, 0x01⟩, ⟨0x10, 0x34, 0x50⟩, ⟨0x80, 0x80, 0x80⟩]

/-- `S6` of 95 section 2.6. -/
def s6 : List Pixel :=
  [⟨0x10, 0x20, 0x30⟩, ⟨0x11, 0x21, 0x31⟩, ⟨0x12, 0x22, 0x32⟩, ⟨0x13, 0x23, 0x33⟩, ⟨0x14, 0x24, 0x34⟩,
    ⟨0x15, 0x25, 0x35⟩]

/-- The source of V-EMB-8, with alpha. -/
def a3 : List SrcElem :=
  [.rgba ⟨0x10, 0x20, 0x30, 0xFF⟩, .rgba ⟨0x11, 0x21, 0x31, 0x80⟩, .rgba ⟨0x12, 0x22, 0x32, 0x00⟩]

/-! ### Well-formedness: an ill-formed term for each check -/

/-- A request that passes every check. -/
theorem test_wf_accepts : (gridRequest 0x03 2 2 (asSource s4) [0x68] []).wf = true := by decide

/-- `OP = 0x7` is reserved (30 R75). -/
theorem test_wf_refuses_illegal_command :
    (gridRequest 0x07 2 2 (asSource s4) [] []).cmdLegal = false
      ∧ (gridRequest 0x07 2 2 (asSource s4) [] []).wf = false := by decide

/-- Three elements for a 2 by 2 grid (70 R192 (3)). -/
theorem test_wf_refuses_shape :
    (gridRequest 0x03 2 2 (asSource (s4.take 3)) [] []).shapeOk = false
      ∧ (gridRequest 0x03 2 2 (asSource (s4.take 3)) [] []).wf = false := by decide

/-- `FMT = 1` with elements that carry no alpha, and the other way round (70 R192 (4)). -/
theorem test_wf_refuses_format :
    (gridRequest 0x13 2 2 (asSource s4) [] []).formatOk = false
      ∧ (gridRequest 0x0B 3 1 a3 [] []).wf = false := by decide

/-- A grid with a pixel too few (00 R6). -/
theorem test_wf_refuses_grid : Grid.wf ⟨2, 2, s4⟩ = true ∧ Grid.wf ⟨2, 2, s4.take 3⟩ = false := by decide

/-- Every operation is well formed: `FMT` is a field of the grid operations only (30 R73). -/
theorem test_wf_instr : (Instr.embed .rgba).wf = true ∧ Instr.utf8d.wf = true := by decide

/-! ### Decoding: words written bit by bit from `000 FMT DIR STG` (30 R71), the vectors V-CMD-1 to V-CMD-27 -/

theorem test_decode_cmp : decode 0b00000001#8 = .ok .cmp := by decide
theorem test_decode_dcmp : decode 0b00001001#8 = .ok .dcmp := by decide
theorem test_decode_pack : decode 0b00000010#8 = .ok .pack := by decide
theorem test_decode_unpk : decode 0b00001010#8 = .ok .unpk := by decide
theorem test_decode_embed :
    decode 0b00000011#8 = .ok (.embed .rgb) ∧ decode 0b00010011#8 = .ok (.embed .rgba) := by decide
theorem test_decode_extract :
    decode 0b00001011#8 = .ok (.extract .rgb) ∧ decode 0b00011011#8 = .ok (.extract .rgba) := by decide
theorem test_decode_utf8e : decode 0b00000100#8 = .ok .utf8e := by decide
theorem test_decode_utf8d : decode 0b00001100#8 = .ok .utf8d := by decide
theorem test_decode_encode :
    decode 0b00000101#8 = .ok (.encode .rgb) ∧ decode 0b00010101#8 = .ok (.encode .rgba) := by decide
theorem test_decode_decode :
    decode 0b00001101#8 = .ok (.decode .rgb) ∧ decode 0b00011101#8 = .ok (.decode .rgba) := by decide
theorem test_decode_norm :
    decode 0b00000110#8 = .ok (.norm .rgb) ∧ decode 0b00010110#8 = .ok (.norm .rgba) := by decide

/-- V-CMD-17 to V-CMD-21 and V-CMD-25: reserved operations. -/
theorem test_decode_reserved_op :
    ([0x00, 0x07, 0x08, 0x0E, 0x0F, 0x10, 0x17, 0x18, 0x1E, 0x1F] : List Byte).all
      (fun b => decide (decode b = .error .reservedOp)) = true := by decide

/-- V-CMD-22 to V-CMD-24: `FMT = 1` with an operation that takes no grid. -/
theorem test_decode_fmt_without_grid :
    ([0x11, 0x12, 0x14, 0x19, 0x1A, 0x1C] : List Byte).all
      (fun b => decide (decode b = .error .fmtWithoutGrid)) = true := by decide

/-- V-CMD-26, V-CMD-27: reserved bits. -/
theorem test_decode_reserved_bits :
    ([0x23, 0x85, 0xFF] : List Byte).all (fun b => decide (decode b = .error .reservedBits)) = true := by decide

/-- The table word of DECODE with alpha. -/
theorem test_decode_table_word : decodeTableWord 8 0x1D = some (.decode .rgba) ∧ decodeTableWord 8 0 = none := by decide

/-! ### One step of each operation -/

/-- V-CMP-5. -/
theorem test_cmp_escapes :
    run (plainRequest 0x01 { Operands.initial with plain := [0x00, 0x01, 0x02] })
      = (0x01, dataResult [0x01, 0x01, 0x01, 0x02, 0x02, 0x00]) := by decide

/-- V-CMP-1: the empty input gives a stream that is not empty. -/
theorem test_cmp_empty : run (plainRequest 0x01 Operands.initial) = (0x01, dataResult [0x00]) := by decide

/-- V-DCMP-2: the byte after the terminator is not examined. -/
theorem test_dcmp_trailing :
    run (plainRequest 0x09 { Operands.initial with data := [0x68, 0x69, 0x00, 0xAA] })
      = (0x01, plainResult [0x68, 0x69]) := by decide

/-- V-DCMP-7: a truncated stream. -/
theorem test_dcmp_truncated :
    run (plainRequest 0x09 { Operands.initial with data := [0x68, 0x69] }) = (0x82, Results.absent) := by decide

/-- V-PACK-1. -/
theorem test_pack :
    run (plainRequest 0x02 { Operands.initial with imm := 0x123456A5 })
      = (0x01, resResult (.pixel 0x153455)) := by decide

/-- V-PACK-10: only the red and blue fields of `c` are set. -/
theorem test_pack_fields :
    run (plainRequest 0x02 { Operands.initial with imm := 0x00FF00E7 })
      = (0x01, resResult (.pixel 0x07FC07)) := by decide

/-- V-UNPK-8, with bits above 23 set: they are no part of the operand. -/
theorem test_unpk :
    run (plainRequest 0x0A { Operands.initial with imm := 0xFFABCDEF })
      = (0x01, resResult (.byte 0x6F)) := by decide

/-- V-UNPK-13: `r[3]`, `g[2]` and `b[3]` are no slots. -/
theorem test_unpk_not_slots :
    run (plainRequest 0x0A { Operands.initial with imm := 0x00080408 })
      = (0x01, resResult (.byte 0x00)) := by decide

/-- V-EMB-1. -/
theorem test_embed :
    run (gridRequest 0x03 2 2 (asSource s4) [0x68, 0x69, 0x00] []) = (0x01, outResult ⟨2, 2, out1⟩) := by decide

/-- V-EMB-10: the descriptor is checked before the capacity. -/
theorem test_embed_bad_descriptor :
    run (gridRequest 0x03 2 2 (asSource (s4.take 1)) [0x00, 0x00, 0x00, 0x00, 0x00] [])
      = (0x85, Results.absent) := by decide

/-- V-ENC-2. -/
theorem test_encode :
    run (gridRequest 0x05 3 2 (asSource s6) [] ['O', 'k', '!'])
      = (0x01, outResult ⟨3, 2,
          [⟨0x12, 0x21, 0x37⟩, ⟨0x13, 0x21, 0x33⟩, ⟨0x11, 0x20, 0x31⟩, ⟨0x10, 0x20, 0x30⟩, ⟨0x14, 0x24, 0x34⟩,
            ⟨0x15, 0x25, 0x35⟩]⟩) := by decide

/-- V-ENC-4: `LEN = N + 1`. -/
theorem test_encode_capacity :
    run (gridRequest 0x05 3 2 (asSource s6) [] ['a', 'b', 'c', 'd', 'e', 'f']) = (0x81, Results.absent) := by decide

/-- V-EXT-3. -/
theorem test_extract :
    run (gridRequest 0x0B 3 2 (asSource s6) [] [])
      = (0x01, rawResult [0x00, 0x29, 0x52, 0x7B, 0x84, 0xAD]) := by decide

/-- V-EXT-5: alpha ignored. -/
theorem test_extract_alpha :
    run (gridRequest 0x1B 3 1 a3 [] []) = (0x01, rawResult [0x00, 0x29, 0x52]) := by decide

/-- V-DEC-1. -/
theorem test_decode_recovers :
    run (gridRequest 0x0D 2 2 (asSource out1) [] []) = (0x01, txtoResult ['h', 'i']) := by decide

/-- V-DEC-3: decompression succeeds and the bytes are no UTF-8. -/
theorem test_decode_not_watermarked :
    run (gridRequest 0x0D 2 1 (asSource [⟨0x07, 0x03, 0x07⟩, ⟨0x00, 0x00, 0x00⟩]) [] [])
      = (0x02, Results.absent) := by decide

/-- V-NORM-1: alpha 00 does not zero the colour. -/
theorem test_norm :
    run (gridRequest 0x16 1 2 [.rgba ⟨0x12, 0x34, 0x56, 0xFF⟩, .rgba ⟨0xAA, 0xBB, 0xCC, 0x00⟩] [] [])
      = (0x01, outResult ⟨1, 2, [⟨0x12, 0x34, 0x56⟩, ⟨0xAA, 0xBB, 0xCC⟩]⟩) := by decide

/-- V-NORM-4. -/
theorem test_norm_bad_descriptor :
    run (gridRequest 0x16 2 2 [.rgba ⟨0x12, 0x34, 0x56, 0xFF⟩] [] []) = (0x85, Results.absent) := by decide

/-- V-U8E-4, V-U8E-5, V-U8E-7, V-U8E-8, V-U8E-13 and V-U8E-14, in one text: both sides of each change of form. -/
theorem test_utf8e_forms :
    run (plainRequest 0x04 { Operands.initial with
        txt := [0x7F, 0x80, 0x7FF, 0x800, 0xFFFF, 0x10000].map Char.ofNat })
      = (0x01, plainResult [0x7F, 0xC2, 0x80, 0xDF, 0xBF, 0xE0, 0xA0, 0x80, 0xEF, 0xBF, 0xBF, 0xF0, 0x90, 0x80, 0x80]) := by
  decide

/-- V-U8E-1 and V-U8E-16. -/
theorem test_utf8e_ends :
    utf8Encode [] = [] ∧ utf8Encode [Char.ofNat 0x10FFFF] = [0xF4, 0x8F, 0xBF, 0xBF] := by decide

/-- V-U8D-1: a byte-order mark is kept. -/
theorem test_utf8d :
    run (plainRequest 0x0C { Operands.initial with plain := [0xEF, 0xBB, 0xBF, 0x68] })
      = (0x01, txtoResult [Char.ofNat 0xFEFF, 'h']) := by decide

/-- V-U8D-3 to V-U8D-12: what the strict decoder refuses. -/
theorem test_utf8d_invalid :
    ([[0xC0, 0x80], [0xC1, 0xBF], [0xE0, 0x80, 0x80], [0xE0, 0x9F, 0xBF], [0xF0, 0x80, 0x80, 0x80],
        [0xF0, 0x8F, 0xBF, 0xBF], [0xED, 0xA0, 0x80], [0xED, 0xBF, 0xBF], [0xF4, 0x90, 0x80, 0x80],
        [0xF5, 0x80, 0x80, 0x80], [0xFE], [0xFF], [0xC3], [0xE2, 0x82], [0xF0, 0x9F, 0x98], [0x68, 0xC3], [0x80],
        [0xBF], [0xC3, 0x28]] : List Bytes).all (fun b => decide (utf8Decode b = none)) = true := by decide

/-- Step 1 of program P4: an illegal command takes its fault. -/
theorem test_illegal_command :
    run (gridRequest 0x00 2 2 (asSource s4) [0x68] ['A']) = (0x84, Results.absent) := by decide

/-- 60 R172: at an index width of 2 a grid of four pixels is refused, and one of three is not. -/
theorem test_index_width :
    observed (serve { K := T0, indexWidth := some 2 } State.reset (gridRequest 0x0B 2 2 (asSource s4) [] []))
        = (0x85, Results.absent)
      ∧ observed (serve { K := T0, indexWidth := some 2 } State.reset (gridRequest 0x1B 3 1 a3 [] []))
        = (0x01, rawResult [0x00, 0x29, 0x52]) := by decide

/-- The registers after step 4 of the sequencer trace of V-EMB-1: `C` is left from step 3. -/
theorem test_embed_registers :
    (serve Config.testParams State.reset (gridRequest 0x03 2 2 (asSource s4) [0x68, 0x69, 0x00] [])).dp
      = { red := 0x80, grn := 0x80, blu := 0x80, c := 0x00, i := 4 } := by decide

/-- The row "step 2" of the sequencer trace of V-EMB-1. -/
theorem test_sequencer_trace :
    (seqSteps (embedPixel .rgb [0x68, 0x69, 0x00]) 2
        (seqOpen (setLen 3 (setN 4
          (present (gridRequest 0x03 2 2 (asSource s4) [0x68, 0x69, 0x00] []) State.reset))))).map
      (fun q => (q.st.dp, q.buf))
      = some
        ({ red := 0x03, grn := 0x01, blu := 0x01, c := 0x69, i := 2 },
          [some ⟨0xFB, 0xFD, 0xF8⟩, some ⟨0x03, 0x01, 0x01⟩, none, none]) := by decide

/-- The row "start" of the same trace, and V-EMB-3 and V-EMB-9 by their start step: the two faults. -/
theorem test_sequencer_start :
    embedSeqStart Config.testParams [0x68, 0x69, 0x00]
          (present (gridRequest 0x03 2 2 (asSource s4) [0x68, 0x69, 0x00] []) State.reset)
        = .running (seqOpen (setLen 3 (setN 4
          (present (gridRequest 0x03 2 2 (asSource s4) [0x68, 0x69, 0x00] []) State.reset))))
      ∧ (embedSeqRun Config.testParams .rgb
          (present (gridRequest 0x03 2 2 (asSource s4) [0x00, 0x00, 0x00, 0x00, 0x00] []) State.reset)).map observed
        = some (0x81, Results.absent)
      ∧ (embedSeqRun Config.testParams .rgb
          (present (gridRequest 0x03 2 2 (asSource (s4.take 3)) [0x68] []) State.reset)).map observed
        = some (0x85, Results.absent) := by decide

/-- V-EXT-8 and V-EXT-7 by the per-pixel realisation; and a `SRC` longer than `W * H` ends at the start too (60 R171). -/
theorem test_extract_sequencer :
    (extractSeqRun Config.testParams .rgb
        (present (gridRequest 0x0B 2 2 (asSource
          [⟨0xFE, 0xFF, 0xFE⟩, ⟨0x05, 0x01, 0x05⟩, ⟨0x15, 0x37, 0x56⟩, ⟨0x87, 0x81, 0x87⟩]) [] []) State.reset)).map observed
        = some (0x01, rawResult [0xDE, 0xAD, 0xBE, 0xEF])
      ∧ (extractSeqRun Config.testParams .rgb
        (present (gridRequest 0x0B 2 2 (asSource [⟨0x00, 0x00, 0x00⟩]) [] []) State.reset)).map observed
        = some (0x85, Results.absent)
      ∧ (extractSeqRun Config.testParams .rgb
        (present (gridRequest 0x0B 1 1 (asSource s4) [] []) State.reset)).map observed = some (0x85, Results.absent) := by
  decide

/-- Right after reset a word placed where the step takes its command runs as the first operation. -/
theorem test_first_operation :
    step (State.reset.withFetchWord 8 0x02) = exec .pack (State.reset.withFetchWord 8 0x02)
      ∧ ∃ t, step (State.reset.withFetchWord 8 0x02) = .next t ∧ t.status = 0x01 := ⟨rfl, _, rfl, rfl⟩

/-! ### Witnesses: states and operands that meet the hypotheses of the statements -/

/-- V-EMB-1 as a state: three bytes for four pixels. -/
def embedState : State := present (gridRequest 0x03 2 2 (asSource s4) [0x68, 0x69, 0x00] []) State.reset

/-- The same with `LEN` bytes of zero. -/
def embedZeros (len : Nat) : State := present (gridRequest 0x03 2 2 (asSource s4) (List.replicate len 0x00) []) State.reset

/-- A grid without pixels. -/
def noPixels : State := present (gridRequest 0x05 0 5 [] [] []) State.reset

/-- The source with alpha, three by one. -/
def alphaState : State := present (gridRequest 0x13 3 1 a3 [0x41, 0x00] []) State.reset

/-- A descriptor that names more pixels than there are. -/
def badState : State := present (gridRequest 0x03 2 2 (asSource (s4.take 3)) [0x68] []) State.reset

/-- The compressed stream of `x`, by the machine's own `K`. -/
def stream (x : Bytes) : Bytes := Config.params.K.compress x

/-- A row of pixels whose slots spell the stream of `x`: one pixel for each byte of it. Its `TXT` is empty. -/
def streamState (x : Bytes) : State :=
  present (gridRequest 0x05 (stream x).length 1 (asSource ((stream x).map (packPixel ⟨0, 0, 0⟩))) [] []) State.reset

/-- A state with `DATA` and `PLAIN` presented. -/
def bytesState (data plain : Bytes) : State :=
  present (plainRequest 0x09 { Operands.initial with data := data, plain := plain }) State.reset

/-- The byte injected into a black pixel is in its slots. -/
theorem unpack_black : ∀ c : Byte, unpackPixel (packPixel ⟨0, 0, 0⟩ c) = c := by decide

/-- The slots of `streamState x` spell the stream of `x`. -/
theorem streamState_slots (x : Bytes) : slotBytes .rgb (streamState x).opnd.src = stream x := by
  show ((((stream x).map (packPixel ⟨0, 0, 0⟩)).map SrcElem.rgb).map fun e => unpackPixel (rgb .rgb e)) = stream x
  rw [List.map_map, List.map_map]
  exact (List.map_congr_left fun c _ => unpack_black c).trans (List.map_id _)

/-- The descriptor of `streamState x` is good. -/
theorem streamState_shape (x : Bytes) : (streamState x).opnd.src.length = (streamState x).w * (streamState x).h := by
  show (((stream x).map (packPixel ⟨0, 0, 0⟩)).map SrcElem.rgb).length = (stream x).length * 1
  simp

/-- The empty text fits `streamState []` exactly. -/
theorem streamState_fits :
    (Config.params.K.compress (utf8Encode (streamState []).opnd.txt)).length ≤ (streamState []).w * (streamState []).h := by
  show (stream []).length ≤ (stream []).length * 1
  simp

/-- A stream has a byte (40 R92): else the stream of any input would be that of every other. -/
theorem stream_pos (x : Bytes) : 0 < (stream x).length := by
  rcases Nat.eq_zero_or_pos (stream x).length with h | h
  · have h1 := Config.params.K.self_terminating x
    have h0 : Config.params.K.compress x = [] := List.length_eq_zero_iff.mp h
    rw [h0] at h1
    have h2 := h1 (stream (0x00 :: x))
    have h3 := Config.params.K.self_terminating (0x00 :: x) []
    rw [List.append_nil] at h3
    rw [List.nil_append, stream, h3] at h2
    simp at h2
  · exact h

/-- The decompressor on a whole stream. -/
theorem stream_whole (x : Bytes) : Config.params.K.decompress (stream x) = some x := by
  have h := Config.params.K.self_terminating x []
  rwa [List.append_nil] at h

/-- ENCODE of the empty text into `streamState []` succeeds. -/
theorem streamState_encodes :
    effect Config.params (.encode .rgb) (streamState [])
      = deliver
          (outResult
            { w := (streamState []).w
              h := (streamState []).h
              px := (streamState []).opnd.src.mapIdx (embedElement .rgb (stream [])) })
          (setDatapath
            (traverse (embedPixel .rgb (stream [])) (streamState []).opnd.src (startIndex (streamState []).dp)).1
            (setLen (stream []).length (setN ((streamState []).w * (streamState []).h) (streamState [])))) := by
  rw [show effect Config.params (.encode .rgb) (streamState []) = embedStage .rgb (stream []) (streamState []) from
    withDescriptor_good _ _ _ (streamState_shape []) rfl]
  rcases embedStage_cases .rgb (stream []) (streamState []) with ⟨_, h⟩ | ⟨h, _⟩
  · exact h
  · exact absurd h (Nat.not_lt.mpr streamState_fits)

/-- The state after it. -/
def encoded : State := effect Config.params (.encode .rgb) (streamState [])

theorem encoded_next : exec (.encode .rgb) (streamState []) = .next encoded := exec_eq_effect _ _

theorem encoded_facts : encoded.status = 0x01 ∧ encoded.len = (stream []).length
    ∧ encoded.rslt = outResult
        { w := (streamState []).w
          h := (streamState []).h
          px := (streamState []).opnd.src.mapIdx (embedElement .rgb (stream [])) } := by
  rw [encoded, streamState_encodes]; exact ⟨rfl, rfl, rfl⟩

/-- 0xFF starts no encoding of a text. -/
theorem ff_no_text (t : Text) : [(0xFF : Byte)] ≠ utf8Encode t := by
  cases t with
  | nil => simp [utf8Encode]
  | cons ch t =>
    intro h
    have hv : ch.toNat < 0x110000 := by have := ch.valid; rcases this with h | h <;> unfold Char.toNat <;> omega
    have h0 := congrArg (fun l => l.head?.map BitVec.toNat) h
    simp only [utf8Encode, List.flatMap_cons, utf8EncodeScalar] at h0
    split at h0
    · simp [byteOf] at h0; omega
    · split at h0
      · simp [byteOf] at h0; omega
      · split at h0
        · simp [byteOf] at h0; omega
        · simp [byteOf] at h0; omega

theorem witness_DecodeAndEncodeAgree : (Instr.embed .rgba).wf = true ∧ decode 0x13 = .ok (.embed .rgba) := by decide

/-- One byte for each of the three causes. -/
theorem witness_IllegalCommandsAreTheOther240 :
    (writeCommand 0x23 State.reset).pending = true
      ∧ decode (writeCommand 0x23 State.reset).cmd = .error .reservedBits
      ∧ decode (writeCommand 0x0E State.reset).cmd = .error .reservedOp
      ∧ decode (writeCommand 0x11 State.reset).cmd = .error .fmtWithoutGrid := by decide

theorem witness_StepRunsTheDecodedOperation :
    embedState.pending = true ∧ decode embedState.cmd = .ok (.embed .rgb)
      ∧ decodeTableWord 8 0x13 = some (.embed .rgba) ∧ State.reset.pending = false := by decide

theorem witness_ResetAbandonsAndIsForgotten :
    ∃ t u, step (present (gridRequest 0x0B 3 1 a3 [] []) (applyReset embedState)) = .next t
      ∧ step (present (gridRequest 0x0B 3 1 a3 [] []) embedState) = .next u :=
  ⟨_, _, step_eq_stepWith _, step_eq_stepWith _⟩

theorem witness_StepKeepsTheInvariant : embedState.Inv = true ∧ ∃ t, step embedState = .next t :=
  ⟨by decide, _, step_eq_stepWith _⟩

theorem witness_ExtractionReadsTheSlotsOnly : sameSlots ⟨0x05, 0x02, 0x03⟩ ⟨0xFD, 0xFE, 0xFB⟩ :=
  ⟨by decide, by decide, by decide⟩

theorem witness_CompressedStreamsArePrefixFree :
    T0.compress [0x00] = T0.compress [0x00] ∧ T0.compress [0x00] <+: T0.compress [0x00] := ⟨rfl, List.prefix_rfl⟩

/-- The five clauses: a decoded stream, an undecodable input, a stream with a byte after it, a proper part of a stream, and
the empty input. -/
theorem witness_DcmpStopsAtTheEndOfTheStream :
    Config.params.K.decompress (bytesState (stream [0x68]) []).opnd.data = some [0x68]
      ∧ Config.params.K.decompress (bytesState [] []).opnd.data = none
      ∧ (bytesState (stream [0x68] ++ [0xAA]) []).opnd.data = Config.params.K.compress [0x68] ++ [0xAA]
      ∧ (bytesState (stream []).dropLast []).opnd.data <+: Config.params.K.compress []
      ∧ (bytesState (stream []).dropLast []).opnd.data ≠ Config.params.K.compress []
      ∧ (bytesState [] []).opnd.data = [] := by
  refine ⟨stream_whole _, Config.params.K.truncation_detected [] [] List.nil_prefix (stream_pos []), rfl,
    List.dropLast_prefix _, ?_, rfl⟩
  intro h
  have h1 : (stream []).dropLast.length = (stream []).length := congrArg List.length h
  have h2 := stream_pos []
  rw [List.length_dropLast] at h1
  omega

/-- Both element clauses: pixel 2 carries the last byte, pixel 3 none. -/
theorem witness_EmbedWritesTheBytesIntoTheGrid :
    embedState.opnd.src.length = embedState.w * embedState.h
      ∧ embedState.opnd.data.length ≤ embedState.w * embedState.h
      ∧ embedState.opnd.data[2]? = some 0x00 ∧ embedState.opnd.src[2]? = some (.rgb ⟨0x12, 0x34, 0x56⟩)
      ∧ embedState.opnd.data.length ≤ 3 ∧ embedState.opnd.src[3]? = some (.rgb ⟨0x80, 0x80, 0x80⟩) := by decide

/-- `LEN = N + 1`, `LEN = N`, and `N = 0`. -/
theorem witness_CapacityCheckIsStrict :
    (embedZeros 5).opnd.src.length = (embedZeros 5).w * (embedZeros 5).h
      ∧ (embedZeros 5).w * (embedZeros 5).h < (embedZeros 5).opnd.data.length
      ∧ (embedZeros 4).opnd.src.length = (embedZeros 4).w * (embedZeros 4).h
      ∧ (embedZeros 4).opnd.data.length = (embedZeros 4).w * (embedZeros 4).h
      ∧ noPixels.opnd.src.length = noPixels.w * noPixels.h ∧ noPixels.w * noPixels.h = 0 := by decide

theorem witness_EmptyDataLeavesTheImage :
    ((embedZeros 0).opnd.src.length = (embedZeros 0).w * (embedZeros 0).h ∧ (embedZeros 0).opnd.data = [])
      ∧ exec (.encode .rgb) (streamState []) = .next encoded ∧ encoded.status = 0x01 :=
  ⟨by decide, encoded_next, encoded_facts.1⟩

theorem witness_EmbedGuarantees :
    ∃ t, exec (.embed .rgb) embedState = .next t ∧ t.rslt.out = some ⟨2, 2, out1⟩
      ∧ embedState.opnd.data[2]? = some 0x00 ∧ embedState.opnd.src[2]? = some (.rgb ⟨0x12, 0x34, 0x56⟩)
      ∧ out1[2]? = some ⟨0x10, 0x34, 0x50⟩
      ∧ (withSource (asSource out1) embedState).opnd.src = asSource out1
      ∧ (withSource (asSource out1) embedState).w * (withSource (asSource out1) embedState).h = 2 * 2 :=
  ⟨_, exec_eq_effect _ _, by decide, by decide, by decide, by decide, rfl, rfl⟩

/-- A text that fits, and one that does not. -/
theorem witness_EncodeCarriesTheTextThatFits :
    (streamState []).opnd.src.length = (streamState []).w * (streamState []).h
      ∧ (Config.params.K.compress (utf8Encode (streamState []).opnd.txt)).length ≤ (streamState []).w * (streamState []).h
      ∧ noPixels.opnd.src.length = noPixels.w * noPixels.h
      ∧ noPixels.w * noPixels.h < (Config.params.K.compress (utf8Encode noPixels.opnd.txt)).length :=
  ⟨streamState_shape [], streamState_fits, rfl, stream_pos []⟩

theorem witness_EncodeEqualsItsStages :
    ∃ s₁ s₂ s₃ t, exec .utf8e badState = .next s₁ ∧ s₁.rslt.plain = some []
      ∧ exec .cmp (withPlain [] badState) = .next s₂ ∧ s₂.rslt.data = some (stream [])
      ∧ exec (.embed .rgb) (withData (stream []) badState) = .next s₃ ∧ exec (.encode .rgb) badState = .next t
      ∧ badState.opnd.src.length ≠ badState.w * badState.h :=
  ⟨_, _, _, _, exec_eq_effect _ _, rfl, exec_eq_effect _ _, rfl, exec_eq_effect _ _, exec_eq_effect _ _, by decide⟩

/-- EMBED with bytes, with none, on no pixels; and ENCODE. -/
theorem witness_EmbedRegistersAfterTheTraversal :
    (∃ t, exec (.embed .rgb) embedState = .next t ∧ t.rslt.out = some ⟨2, 2, out1⟩
        ∧ out1.getLast? = some ⟨0x80, 0x80, 0x80⟩ ∧ embedState.opnd.data.getLast? = some 0x00)
      ∧ (∃ t, exec (.embed .rgb) noPixels = .next t ∧ t.rslt.out = some ⟨0, 5, []⟩ ∧ noPixels.opnd.data = [])
      ∧ ∃ g, exec (.encode .rgb) (streamState []) = .next encoded ∧ encoded.rslt.out = some g :=
  ⟨⟨_, exec_eq_effect _ _, by decide, by decide, by decide⟩, ⟨_, exec_eq_effect _ _, by decide, rfl⟩,
    { w := (streamState []).w
      h := (streamState []).h
      px := (streamState []).opnd.src.mapIdx (embedElement .rgb (stream [])) },
    encoded_next, by rw [encoded_facts.2.2]; rfl⟩

/-- The two ways a descriptor is bad, `LEN = N + 1`, `LEN = N`, and a run with pixel steps before and at its end, at an
unbounded width and at one the pixel count just fits. -/
theorem witness_EmbedSequencerAgrees :
    badState.opnd.src.length ≠ badState.w * badState.h
      ∧ ((Params.mk T0 (some 2)).indexWidth = some 2 ∧ 2 ^ 2 ≤ embedState.w * embedState.h)
      ∧ ((embedZeros 5).opnd.src.length = (embedZeros 5).w * (embedZeros 5).h
        ∧ (∀ k, Config.params.indexWidth = some k → (embedZeros 5).w * (embedZeros 5).h < 2 ^ k)
        ∧ (embedZeros 5).w * (embedZeros 5).h < (embedZeros 5).opnd.data.length)
      ∧ ((embedZeros 4).opnd.src.length = (embedZeros 4).w * (embedZeros 4).h
        ∧ (∀ k, (Params.mk T0 (some 3)).indexWidth = some k → (embedZeros 4).w * (embedZeros 4).h < 2 ^ k)
        ∧ (embedZeros 4).opnd.data.length ≤ (embedZeros 4).w * (embedZeros 4).h
        ∧ 3 < (embedZeros 4).w * (embedZeros 4).h ∧ 4 = (embedZeros 4).w * (embedZeros 4).h) := by
  refine ⟨by decide, ⟨rfl, by decide⟩, ⟨by decide, ?_, by decide⟩, by decide, ?_, by decide, by decide, by decide⟩
  · intro k h
    exact absurd (show none = some k from h) (by simp)
  · intro k h
    obtain rfl : 3 = k := Option.some.inj h
    decide

theorem witness_ExtractReadsAByteFromEveryPixel :
    embedState.opnd.src.length = embedState.w * embedState.h
      ∧ embedState.opnd.src.getLast? = some (.rgb ⟨0x80, 0x80, 0x80⟩)
      ∧ alphaState.opnd.src.length = alphaState.w * alphaState.h
      ∧ noPixels.opnd.src.length = noPixels.w * noPixels.h ∧ noPixels.opnd.src = [] := by decide

theorem witness_ExtractInvertsEmbed :
    ∃ t v, exec (.embed .rgb) embedState = .next t ∧ t.rslt.out = some ⟨2, 2, out1⟩
      ∧ (withSource (asSource out1) embedState).opnd.src = asSource out1
      ∧ (withSource (asSource out1) embedState).w * (withSource (asSource out1) embedState).h = 2 * 2
      ∧ exec (.extract .rgb) (withSource (asSource out1) embedState) = .next v
      ∧ embedState.opnd.src[embedState.opnd.data.length + 0]? = some (.rgb ⟨0x80, 0x80, 0x80⟩) :=
  ⟨_, _, exec_eq_effect _ _, by decide, rfl, rfl, exec_eq_effect _ _, by decide⟩

/-- The two ways a descriptor is bad, and a run with pixel steps before and at its end. -/
theorem witness_ExtractSequencerAgrees :
    badState.opnd.src.length ≠ badState.w * badState.h
      ∧ ((Params.mk T0 (some 2)).indexWidth = some 2 ∧ 2 ^ 2 ≤ embedState.w * embedState.h)
      ∧ alphaState.opnd.src.length = alphaState.w * alphaState.h
      ∧ (∀ k, (Params.mk T0 (some 2)).indexWidth = some k → alphaState.w * alphaState.h < 2 ^ k)
      ∧ 2 < alphaState.w * alphaState.h ∧ 3 = alphaState.w * alphaState.h := by
  refine ⟨by decide, ⟨rfl, by decide⟩, by decide, ?_, by decide, by decide⟩
  intro k h
  obtain rfl : 2 = k := Option.some.inj h
  decide

/-- A text, bytes that are no text, and no stream. -/
theorem witness_DecodeAnswersATaggedResult :
    ((streamState []).opnd.src.length = (streamState []).w * (streamState []).h
        ∧ Config.params.K.decompress (slotBytes .rgb (streamState []).opnd.src) = some [] ∧ utf8Decode [] = some [])
      ∧ ((streamState [0xFF]).opnd.src.length = (streamState [0xFF]).w * (streamState [0xFF]).h
        ∧ Config.params.K.decompress (slotBytes .rgb (streamState [0xFF]).opnd.src) = some [0xFF]
        ∧ utf8Decode [0xFF] = none)
      ∧ (noPixels.opnd.src.length = noPixels.w * noPixels.h
        ∧ Config.params.K.decompress (slotBytes .rgb noPixels.opnd.src) = none)
      ∧ ∃ u, exec (.extract .rgb) noPixels = .next u := by
  refine ⟨⟨streamState_shape _, ?_, by decide⟩, ⟨streamState_shape _, ?_, by decide⟩,
    ⟨rfl, Config.params.K.truncation_detected [] [] List.nil_prefix (stream_pos [])⟩, _, exec_eq_effect _ _⟩
  · rw [streamState_slots]; exact stream_whole []
  · rw [streamState_slots]; exact stream_whole [0xFF]

/-- DCMP and UTF8D on the bytes of a stream: the two stage results that DECODE goes through. -/
theorem stages_of_stream (x : Bytes) :
    ∃ s₁ s₂, exec (.extract .rgb) (streamState x) = .next s₁ ∧ s₁.rslt.raw = some (stream x)
      ∧ exec .dcmp (withData (stream x) (streamState x)) = .next s₂ ∧ s₂.rslt.plain = some x := by
  refine ⟨_, _, exec_eq_effect _ _, ?_, exec_eq_effect _ _, ?_⟩
  · show (withDescriptor _ _ _).rslt.raw = _
    rw [withDescriptor_good _ _ _ (streamState_shape x) rfl, extractDeliver_eq, streamState_slots]
    rfl
  · show (dcmpEffect _ _).rslt.plain = _
    rw [dcmpEffect, withData_opnd_data, stream_whole]
    rfl

/-- A text, bytes that are no text, a corrupt stream, and a bad descriptor. -/
theorem witness_DecodeEqualsItsStages :
    (∃ s₁ t, exec (.extract .rgb) badState = .next s₁ ∧ exec (.decode .rgb) badState = .next t
        ∧ badState.opnd.src.length ≠ badState.w * badState.h)
      ∧ (∃ s₁ t s₂, exec (.extract .rgb) noPixels = .next s₁ ∧ exec (.decode .rgb) noPixels = .next t
        ∧ s₁.rslt.raw = some [] ∧ exec .dcmp (withData [] noPixels) = .next s₂ ∧ s₂.status = 0x82)
      ∧ (∃ s₁ t s₂ s₃, exec (.extract .rgb) (streamState [0xFF]) = .next s₁
        ∧ exec (.decode .rgb) (streamState [0xFF]) = .next t ∧ s₁.rslt.raw = some (stream [0xFF])
        ∧ exec .dcmp (withData (stream [0xFF]) (streamState [0xFF])) = .next s₂ ∧ s₂.rslt.plain = some [0xFF]
        ∧ exec .utf8d (withPlain [0xFF] (streamState [0xFF])) = .next s₃ ∧ s₃.status = 0x83)
      ∧ ∃ s₁ t s₂ s₃, exec (.extract .rgb) (streamState []) = .next s₁
        ∧ exec (.decode .rgb) (streamState []) = .next t ∧ s₁.rslt.raw = some (stream [])
        ∧ exec .dcmp (withData (stream []) (streamState [])) = .next s₂ ∧ s₂.rslt.plain = some []
        ∧ exec .utf8d (withPlain [] (streamState [])) = .next s₃ ∧ s₃.status = 0x01 := by
  obtain ⟨a₁, a₂, h1, h2, h3, h4⟩ := stages_of_stream [0xFF]
  obtain ⟨b₁, b₂, k1, k2, k3, k4⟩ := stages_of_stream []
  refine ⟨⟨_, _, exec_eq_effect _ _, exec_eq_effect _ _, by decide⟩,
    ⟨_, _, _, exec_eq_effect _ _, exec_eq_effect _ _, by decide, exec_eq_effect _ _, ?_⟩,
    ⟨a₁, _, a₂, _, h1, exec_eq_effect _ _, h2, h3, h4, exec_eq_effect _ _, ?_⟩,
    ⟨b₁, _, b₂, _, k1, exec_eq_effect _ _, k2, k3, k4, exec_eq_effect _ _, ?_⟩⟩
  · show (dcmpEffect _ _).status = _
    rw [dcmpEffect, withData_opnd_data,
      Config.params.K.truncation_detected [] [] List.nil_prefix (stream_pos [])]
    rfl
  · show (utf8dEffect _ _).status = _
    rw [utf8dEffect, withPlain_opnd_plain]
    rfl
  · show (utf8dEffect _ _).status = _
    rw [utf8dEffect, withPlain_opnd_plain]
    rfl

/-- The premises of the round trip, of the empty text among them, and of the decoding that follows. -/
theorem witness_DecodeOfEncodeRecoversTheText :
    (streamState []).opnd.txt = [] ∧ (streamState []).opnd.src.length = (streamState []).w * (streamState []).h
      ∧ (Config.params.K.compress (utf8Encode (streamState []).opnd.txt)).length ≤ (streamState []).w * (streamState []).h
      ∧ ∀ g : Grid, (present (gridRequest 0x0D g.w g.h (asSource g.px) [] []) State.reset).opnd.src = asSource g.px :=
  ⟨rfl, streamState_shape [], streamState_fits, fun _ => rfl⟩

theorem witness_EmptyTextIsRecovered :
    (streamState []).opnd.txt = [] ∧ (streamState []).opnd.src.length = (streamState []).w * (streamState []).h
      ∧ (Config.params.K.compress []).length ≤ (streamState []).w * (streamState []).h
      ∧ ∀ g : Grid, (present (gridRequest 0x0D g.w g.h (asSource g.px) [] []) State.reset).w
          * (present (gridRequest 0x0D g.w g.h (asSource g.px) [] []) State.reset).h = g.w * g.h :=
  ⟨rfl, streamState_shape [], streamState_fits, fun _ => rfl⟩

/-- A carrier that keeps every pixel, and one that keeps none. -/
theorem witness_AlteredCarriersDecodeByTheirSlots :
    ∃ g, exec (.encode .rgb) (streamState []) = .next encoded ∧ encoded.rslt.out = some g
      ∧ (streamState []).opnd.src.length = (streamState []).w * (streamState []).h
      ∧ (∀ (i : Nat) (p : Pixel) (e : SrcElem), i < encoded.len → g.px[i]? = some p →
        (streamState []).opnd.src[i]? = some e → sameSlots p (rgb .rgb e))
      ∧ encoded.len ≤ (streamState []).opnd.src.length
      ∧ noPixels.opnd.src.length = noPixels.w * noPixels.h ∧ noPixels.opnd.src.length < encoded.len := by
  refine ⟨_, encoded_next, by rw [encoded_facts.2.2]; rfl, streamState_shape [], ?_, ?_, rfl, ?_⟩
  · intro i p e _ hp he
    simp only [List.getElem?_mapIdx, he, Option.map_some, Option.some.injEq] at hp
    have hc : (stream [])[i]? = some (unpackPixel (rgb .rgb e)) := by
      rw [← streamState_slots [], slotBytes, List.getElem?_map, he]; rfl
    have hk : ∀ c : Byte, sameSlots (packPixel (packPixel ⟨0, 0, 0⟩ c) c) (packPixel ⟨0, 0, 0⟩ c) := by
      unfold sameSlots; decide
    have hsrc : (streamState []).opnd.src[i]? = ((stream [])[i]?).map fun c => SrcElem.rgb (packPixel ⟨0, 0, 0⟩ c) := by
      show (((stream []).map (packPixel ⟨0, 0, 0⟩)).map SrcElem.rgb)[i]? = _
      rw [List.getElem?_map, List.getElem?_map, Option.map_map]; rfl
    rw [he, hc] at hsrc
    have hr : e = SrcElem.rgb (packPixel ⟨0, 0, 0⟩ (unpackPixel (rgb .rgb e))) := Option.some.inj hsrc
    rw [← hp, embedElement, hc]
    have h2 : rgb .rgb e = packPixel ⟨0, 0, 0⟩ (unpackPixel (rgb .rgb e)) := congrArg (rgb .rgb) hr
    have h3 := hk (unpackPixel (rgb .rgb e))
    rw [← h2] at h3
    exact h3
  · rw [encoded_facts.2.1, streamState_shape]; show (stream []).length ≤ (stream []).length * 1; omega
  · rw [encoded_facts.2.1]; exact stream_pos []

theorem witness_GridWithoutPixelsHoldsNoText : noPixels.opnd.src = [] ∧ noPixels.w * noPixels.h = 0 := by decide

/-- The start of V-DEC-4. -/
theorem witness_UnwatermarkedImageCanDecodeToText :
    (withSource (asSource s6) (present (gridRequest 0x0D 3 2 [] [] []) State.reset)).opnd.src.length = 3 * 2
      ∧ (asSource s6).head? = some (.rgb ⟨0x10, 0x20, 0x30⟩)
      ∧ unpackPixel (rgb .rgb (.rgb ⟨0x10, 0x20, 0x30⟩)) = 0x00 := by decide

/-- Both formats. -/
theorem witness_NormDropsAlpha :
    embedState.opnd.src.length = embedState.w * embedState.h ∧ embedState.opnd.src[0]? = some (.rgb ⟨0xFF, 0xFF, 0xFF⟩)
      ∧ alphaState.opnd.src.length = alphaState.w * alphaState.h
      ∧ alphaState.opnd.src[2]? = some (.rgba ⟨0x12, 0x22, 0x32, 0x00⟩) := by decide

theorem witness_AlphaFormsEqualNormFirst :
    Instr.embed ∈ [Instr.embed, Instr.encode, Instr.extract, Instr.decode]
      ∧ ∃ t u v, exec (.norm .rgba) alphaState = .next t
        ∧ t.rslt.out = some ⟨3, 1, [⟨0x10, 0x20, 0x30⟩, ⟨0x11, 0x21, 0x31⟩, ⟨0x12, 0x22, 0x32⟩]⟩
        ∧ exec (.embed .rgba) alphaState = .next u
        ∧ exec (.embed .rgb)
            (withSource (asSource [⟨0x10, 0x20, 0x30⟩, ⟨0x11, 0x21, 0x31⟩, ⟨0x12, 0x22, 0x32⟩]) alphaState) = .next v :=
  ⟨by simp, _, _, _, exec_eq_effect _ _, by decide, exec_eq_effect _ _, exec_eq_effect _ _⟩

theorem witness_Utf8dDeliversTheTextOrFaults :
    (bytesState [] [0x68]).opnd.plain = utf8Encode ['h'] ∧ ∀ t, (bytesState [] [0xFF]).opnd.plain ≠ utf8Encode t :=
  ⟨by decide, ff_no_text⟩

/-- The first and the last scalar value of each form. -/
theorem witness_Utf8EncodesInTheShortestForm :
    ([0x00, 0x7F] : List Nat).all (fun v => decide ((Char.ofNat v).toNat < 0x80)) = true
      ∧ ([0x80, 0x7FF] : List Nat).all
        (fun v => decide (0x80 ≤ (Char.ofNat v).toNat ∧ (Char.ofNat v).toNat < 0x800)) = true
      ∧ ([0x800, 0xFFFF] : List Nat).all
        (fun v => decide (0x800 ≤ (Char.ofNat v).toNat ∧ (Char.ofNat v).toNat < 0x10000)) = true
      ∧ ([0x10000, 0x10FFFF] : List Nat).all (fun v => decide (0x10000 ≤ (Char.ofNat v).toNat)) = true := by decide

theorem witness_Utf8RoundTrip : utf8Encode ['h'] = utf8Encode ['h'] := rfl

theorem witness_Utf8DecoderIsStrict :
    (0xC0 : Byte) ∈ ([0x68, 0xC0] : Bytes) ∧ (0xF5 : Byte) ∈ ([0x68, 0xF5] : Bytes) ∧ 0xF5 ≤ (0xF5 : Byte).toNat
      ∧ 0x80 ≤ (0x80 : Byte).toNat ∧ (0xBF : Byte).toNat ≤ 0xBF := by decide

/-- The shape, at any index width; and the size, at a width at which the pixel count is just too large. -/
theorem witness_BadDescriptorPrecedesTheStages :
    (Instr.embed .rgb).takesGrid = true ∧ badState.opnd.src.length ≠ badState.w * badState.h
      ∧ (Params.mk T0 (some 2)).indexWidth = some 2 ∧ 2 ^ 2 ≤ embedState.w * embedState.h :=
  ⟨rfl, by decide, rfl, by decide⟩

/-- Unbounded, and at a width at which the pixel count just fits. -/
theorem witness_DescriptorThatFitsIsAccepted :
    (Instr.extract .rgba).takesGrid = true ∧ alphaState.opnd.src.length = alphaState.w * alphaState.h
      ∧ (∀ k, Config.params.indexWidth = some k → alphaState.w * alphaState.h < 2 ^ k)
      ∧ (∀ k, (Params.mk T0 (some 2)).indexWidth = some k → alphaState.w * alphaState.h < 2 ^ k)
      ∧ ∃ t, exec (.extract .rgba) alphaState = .next t := by
  refine ⟨rfl, by decide, ?_, ?_, _, exec_eq_effect _ _⟩
  · intro k h
    exact absurd (show none = some k from h) (by simp)
  · intro k h
    obtain rfl : 2 = k := Option.some.inj h
    decide

theorem witness_FaultsDeliverNothingButTheStatus :
    ∃ t, exec (.embed .rgb) (embedZeros 5) = .next t ∧ faultBit t.status = true :=
  ⟨_, exec_eq_effect _ _, by decide⟩

theorem witness_OutcomeDependsOnTheRequestAlone :
    ∃ s' t', step (present (gridRequest 0x0B 3 1 a3 [] []) State.reset) = .next s'
      ∧ step (present (gridRequest 0x0B 3 1 a3 [] []) encoded) = .next t' :=
  ⟨_, _, step_eq_stepWith _, step_eq_stepWith _⟩

/-- V-EMB-12: the same pixels in two shapes. -/
theorem witness_OnlyTheLinearOrderMatters :
    (Instr.embed .rgb).takesGrid = true
      ∧ embedState.opnd = (present (gridRequest 0x03 4 1 (asSource s4) [0x68, 0x69, 0x00] []) State.reset).opnd
      ∧ embedState.w * embedState.h = 4 * 1
      ∧ ∃ s' t', exec (.embed .rgb) embedState = .next s'
        ∧ exec (.embed .rgb) (present (gridRequest 0x03 4 1 (asSource s4) [0x68, 0x69, 0x00] []) State.reset) = .next t' :=
  ⟨rfl, rfl, rfl, _, _, exec_eq_effect _ _, exec_eq_effect _ _⟩

theorem witness_StageOperationsKeepTheRegisters :
    Instr.dcmp ∈ [Instr.cmp, Instr.dcmp, Instr.utf8e, Instr.utf8d] ∧ ∃ t, exec .dcmp encoded = .next t :=
  ⟨by decide, _, exec_eq_effect _ _⟩

theorem witness_SlotOperationsKeepTheRest :
    Instr.unpk ∈ [Instr.pack, Instr.unpk] ∧ ∃ t, exec .unpk encoded = .next t := ⟨by decide, _, exec_eq_effect _ _⟩

/-- An operation that runs, one that the capacity check ends, and one that the descriptor check ends. -/
theorem witness_GridOperationsKeepTheRest :
    (Instr.embed .rgb).takesGrid = true ∧ (∃ t, exec (.norm .rgba) alphaState = .next t)
      ∧ (∃ t, exec (.embed .rgb) (embedZeros 5) = .next t ∧ t.status = 0x81)
      ∧ ∃ t, exec (.embed .rgb) badState = .next t ∧ t.status = 0x85 :=
  ⟨rfl, ⟨_, exec_eq_effect _ _⟩, ⟨_, exec_eq_effect _ _, by decide⟩, _, exec_eq_effect _ _, by decide⟩

theorem witness_RowMajorIndexIsABijection :
    1 < 3 ∧ 1 < 2 ∧ 5 < 3 * 2 ∧ s6.length = 3 * 2 ∧ rowMajor 3 1 1 = 4
      ∧ pixelAt ⟨3, 2, s6⟩ 1 1 = some ⟨0x14, 0x24, 0x34⟩ := by decide

theorem witness_FlattenedLayoutIsRedGreenBlueAlpha :
    s4[2]? = some ⟨0x12, 0x34, 0x56⟩
      ∧ [Pixel4.mk 0x10 0x20 0x30 0xFF, Pixel4.mk 0x11 0x21 0x31 0x80][1]? = some ⟨0x11, 0x21, 0x31, 0x80⟩ := by decide

end Sys2Proof.Tests
end

section
/-!
PROOF. The step and the command byte: which operation a step runs, and where the byte that it decodes stands.
-/

namespace Sys2Proof

/-- `decode?` forgets only which cause made a byte illegal. -/
theorem decode?_eq_some_iff (b : Byte) (i : Instr) : decode? b = some i ↔ decode b = .ok i := by
  unfold decode?
  cases decode b <;> simp

end Sys2Proof

namespace Sys2Proof.Machine

/-- A presented legal command runs as its operation (00 R2, 10 R20). -/
theorem step_legal (s : State) (i : Instr) (h : s.pending = true) (hd : decode s.cmd = .ok i) : step s = exec i s := by
  rw [step_eq_stepWith, stepWith_legal _ s i h hd, exec_eq_effect]

/-- A block to which no command was presented executes nothing (70 R191). -/
theorem step_idle (s : State) (h : s.pending = false) : step s = .next s := by
  rw [step_eq_stepWith, stepWith_idle _ s h]

@[simp] theorem withFetchWord_pending (s : State) (nbits w : Nat) : (s.withFetchWord nbits w).pending = true :=
  writeCommand_pending _ s

@[simp] theorem withFetchWord_cmd (s : State) (nbits w : Nat) :
    (s.withFetchWord nbits w).cmd = BitVec.ofNat 8 (w % 2 ^ nbits) :=
  writeCommand_cmd _ s

/-- The opcode-table word is read through the byte that `withFetchWord` places in `CMD`. -/
theorem decodeTableWord_eq_some_iff (s : State) (nbits w : Nat) (i : Instr) :
    decodeTableWord nbits w = some i ↔ decode (s.withFetchWord nbits w).cmd = .ok i := by
  rw [withFetchWord_cmd]
  exact decode?_eq_some_iff _ i

/-- A placed byte is run by the very next step. -/
theorem step_withFetchWord (s : State) (nbits w : Nat) (i : Instr) (h : decodeTableWord nbits w = some i) :
    step (s.withFetchWord nbits w) = exec i (s.withFetchWord nbits w) :=
  step_legal _ i (withFetchWord_pending s nbits w) ((decodeTableWord_eq_some_iff s nbits w i).1 h)

/-- Settles O4: the decoded operation is the one the step runs, also for a byte placed by `withFetchWord`, which writes
`CMD` and presents the command and does no more; an idle step is the identity. -/
theorem stepRunsTheDecodedOperation : Obligations.StepRunsTheDecodedOperation :=
  ⟨step_legal, step_withFetchWord, fun _ _ _ => rfl, step_idle⟩

end Sys2Proof.Machine
end

section
/-!
PROOF. Reset, and what an operation answers: the outcome of every operation said through the operands alone (10 R26, R30).
-/

namespace Sys2Proof.Machine

/-- Settles O6: reset presents no command, so a step is idle; the other values are those of `State.reset`. -/
theorem resetIsIdleWithoutResults : Obligations.ResetIsIdleWithoutResults :=
  ⟨rfl, rfl, rfl, rfl, step_idle _ rfl⟩

/-- Settles O8: `STATUS` is `IDLE` and no result exists, so there is no grid to be measured. -/
theorem resetMeetsTheInvariant : Obligations.ResetMeetsTheInvariant := by
  have hstatus : statusLegal State.reset = true := by decide
  have hresults : resultsMatchStatus State.reset = true := by decide
  have hgrid : State.reset.rslt.wf = true := absent_wf
  simp [Obligations.ResetMeetsTheInvariant, State.Inv, hstatus, hresults, hgrid]

/-! ### The outcome of each end -/

@[simp] theorem observed_deliver (r : Results) (s : State) : observed (deliver r s) = (0x01, r) := rfl

@[simp] theorem observed_raiseFault (f : FaultCode) (s : State) :
    observed (raiseFault f s) = (f.code, Results.absent) := rfl

@[simp] theorem observed_answerNotWatermarked (s : State) :
    observed (answerNotWatermarked s) = (0x02, Results.absent) := rfl

/-! ### The outcome of each operation -/

/-- The descriptor check decides between its fault and the outcome of the stages. -/
theorem observed_withDescriptor (p : Params) (run : State → State) (s : State) :
    observed (withDescriptor p run s) = checkDescriptor p s (0x85, Results.absent) (observed (run s)) := by
  rcases withDescriptor_cases p run s with ⟨hs, hf, hrun⟩ | ⟨hbad, hrun⟩
  · rw [hrun, checkDescriptor_good p s _ _ hs hf]
  · rw [hrun, checkDescriptor_bad p s _ _ hbad]; rfl

/-- The outcome of DCMP (40 R86). -/
theorem observed_dcmpEffect (p : Params) (s : State) :
    observed (dcmpEffect p s)
      = (p.K.decompress s.opnd.data).elim (0x82, Results.absent) fun plain => (0x01, plainResult plain) := by
  unfold dcmpEffect
  cases p.K.decompress s.opnd.data <;> rfl

/-- The outcome of UTF8D (43 R158). -/
theorem observed_utf8dEffect (p : Params) (s : State) :
    observed (utf8dEffect p s)
      = (utf8Decode s.opnd.plain).elim (0x83, Results.absent) fun t => (0x01, txtoResult t) := by
  unfold utf8dEffect
  cases utf8Decode s.opnd.plain <;> rfl

/-- The outcome of PACK (41 R100): the registers it works on were loaded from `IMM`. -/
theorem observed_packEffect (p : Params) (s : State) :
    observed (packEffect p s)
      = (0x01, resResult (.pixel (pixelWord
          (packPixel (packPixelOperand s.opnd.imm) (packByteOperand s.opnd.imm))))) := rfl

/-- The outcome of UNPK (42 R125): the registers it works on were loaded from `IMM`. -/
theorem observed_unpkEffect (p : Params) (s : State) :
    observed (unpkEffect p s) = (0x01, resResult (.byte (unpackPixel (unpkPixelOperand s.opnd.imm)))) := rfl

/-- The outcome of the EMBED stage (41 R105, R108). -/
theorem observed_embedStage (fmt : Fmt) (data : Bytes) (s : State) :
    observed (embedStage fmt data s)
      = if s.w * s.h < data.length then (0x81, Results.absent)
        else (0x01, outResult { w := s.w, h := s.h, px := s.opnd.src.mapIdx (embedElement fmt data) }) := by
  rcases embedStage_cases fmt data s with ⟨hfits, hrun⟩ | ⟨hfull, hrun⟩
  · rw [hrun, if_neg (Nat.not_lt.mpr hfits), observed_deliver]
  · rw [hrun, if_pos hfull]; rfl

/-- The outcome of EXTRACT after the descriptor check (42 R131). -/
theorem observed_extractDeliver (fmt : Fmt) (s : State) :
    observed (extractDeliver fmt s) = (0x01, rawResult (slotBytes fmt s.opnd.src)) := by
  rw [extractDeliver_eq, observed_deliver]

/-- The outcome of the stages of DECODE (42 R138, R139). -/
theorem observed_decodeStages (p : Params) (fmt : Fmt) (s : State) :
    observed (decodeStages p fmt s)
      = ((p.K.decompress (slotBytes fmt s.opnd.src)).bind utf8Decode).elim (0x02, Results.absent)
          fun t => (0x01, txtoResult t) := by
  rcases decodeStages_cases p fmt s with ⟨plain, t, hk, hu, hrun⟩ | ⟨hk | ⟨plain, hk, hu⟩, hrun⟩
  · simp [hrun, hk, hu]
  · simp [hrun, hk]
  · simp [hrun, hk, hu]

/-- The outcome of NORM after the descriptor check (43 R150). -/
theorem observed_normStage (fmt : Fmt) (s : State) :
    observed (normStage fmt s)
      = (0x01, outResult { w := s.w, h := s.h, px := s.opnd.src.map (rgb fmt) }) := by
  rw [normStage_eq, observed_deliver]

/-! ### Two runs on the same operands -/

/-- Two states that agree on all that an operation reads: the grid's dimensions and the operand buffers (10 R22, R28). -/
structure SameOperands (s t : State) : Prop where
  w : s.w = t.w
  h : s.h = t.h
  opnd : s.opnd = t.opnd

/-- Presenting a request overwrites all that an operation reads (60 R183). -/
theorem sameOperands_present (r : Request) (s t : State) : SameOperands (present r s) (present r t) :=
  ⟨rfl, rfl, rfl⟩

/-- The descriptor check reads nothing else. -/
theorem SameOperands.checkDescriptor_eq {s t : State} (hst : SameOperands s t) {α : Type} (p : Params) (bad good : α) :
    checkDescriptor p s bad good = checkDescriptor p t bad good := by
  simp only [checkDescriptor, hst.w, hst.h, hst.opnd]

/-- A grid operation has the same outcome in both states if its stages have. -/
theorem SameOperands.observed_withDescriptor_eq {s t : State} (hst : SameOperands s t) (p : Params)
    (run run' : State → State) (hrun : observed (run s) = observed (run' t)) :
    observed (withDescriptor p run s) = observed (withDescriptor p run' t) := by
  rw [observed_withDescriptor, observed_withDescriptor, hst.checkDescriptor_eq, hrun]

/-- The EMBED stage has the same outcome in both states. -/
theorem SameOperands.observed_embedStage_eq {s t : State} (hst : SameOperands s t) (fmt : Fmt) (data : Bytes) :
    observed (embedStage fmt data s) = observed (embedStage fmt data t) := by
  rw [observed_embedStage, observed_embedStage, hst.w, hst.h, hst.opnd]

/-- No operation reads a register before it writes it (10 R17). -/
theorem SameOperands.observed_effect_eq {s t : State} (hst : SameOperands s t) (p : Params) (i : Instr) :
    observed (effect p i s) = observed (effect p i t) := by
  cases i with
  | cmp => simp only [effect, cmpEffect, observed_deliver, hst.opnd]
  | dcmp => simp only [effect, observed_dcmpEffect, hst.opnd]
  | pack => simp only [effect, observed_packEffect, hst.opnd]
  | embed fmt =>
    refine hst.observed_withDescriptor_eq p _ _ ?_
    rw [hst.opnd]
    exact hst.observed_embedStage_eq fmt _
  | encode fmt =>
    refine hst.observed_withDescriptor_eq p _ _ ?_
    rw [encodeStages, encodeStages, hst.opnd]
    exact hst.observed_embedStage_eq fmt _
  | unpk => simp only [effect, observed_unpkEffect, hst.opnd]
  | extract fmt =>
    exact hst.observed_withDescriptor_eq p _ _ (by simp only [observed_extractDeliver, hst.opnd])
  | decode fmt =>
    exact hst.observed_withDescriptor_eq p _ _ (by simp only [observed_decodeStages, hst.opnd])
  | norm fmt =>
    exact hst.observed_withDescriptor_eq p _ _ (by simp only [observed_normStage, hst.w, hst.h, hst.opnd])
  | utf8e => simp only [effect, utf8eEffect, observed_deliver, hst.opnd]
  | utf8d => simp only [effect, observed_utf8dEffect, hst.opnd]

/-- The outcome of a request served in two states: its byte alone says which operation runs. -/
theorem observed_serve_eq (p : Params) (r : Request) (s t : State) :
    observed (serve p s r) = observed (serve p t r) := by
  unfold serve
  cases hd : decode r.cmd with
  | ok i =>
    rw [stepWith_legal p (present r s) i rfl hd, stepWith_legal p (present r t) i rfl hd]
    exact (sameOperands_present r s t).observed_effect_eq p i
  | error e =>
    rw [stepWith_illegal p (present r s) e rfl hd, stepWith_illegal p (present r t) e rfl hd]
    rfl

/-- Settles O51: presenting the request overwrites all that the operation reads, and `step` is `serve` at the machine's
parameters. -/
theorem outcomeDependsOnTheRequestAlone : Obligations.OutcomeDependsOnTheRequestAlone := by
  refine ⟨observed_serve_eq, fun r s t s' t' hs ht => ?_⟩
  rw [(step_next_iff _ _).1 hs, (step_next_iff _ _).1 ht]
  exact observed_serve_eq Config.params r s t

end Sys2Proof.Machine
end

section
/-!
PROOF. The frames: what each kind of operation leaves of the registers and the operand buffers, from the few ways in which
it can end.
-/

namespace Sys2Proof.Machine

/-! ### The adapter and text stages, and the slot operations -/

/-- CMP, DCMP, UTF8E and UTF8D do nothing but end. -/
theorem effect_stage_ending (p : Params) (i : Instr) (s : State)
    (hi : i ∈ [Instr.cmp, Instr.dcmp, Instr.utf8e, Instr.utf8d]) : ∃ code r, effect p i s = endOperation code r s := by
  simp only [List.mem_cons, List.not_mem_nil, or_false] at hi
  obtain rfl | rfl | rfl | rfl := hi
  · exact ⟨_, _, rfl⟩
  · simp only [effect, dcmpEffect]
    cases p.K.decompress s.opnd.data <;> exact ⟨_, _, rfl⟩
  · exact ⟨_, _, rfl⟩
  · simp only [effect, utf8dEffect]
    cases utf8Decode s.opnd.plain <;> exact ⟨_, _, rfl⟩

/-- Settles O53: the end of an operation writes `STATUS` and the results alone. -/
theorem stageOperationsKeepTheRegisters : Obligations.StageOperationsKeepTheRegisters := by
  intro i s t hi ht
  obtain ⟨code, r, hend⟩ := effect_stage_ending Config.params i s hi
  rw [(exec_next_iff i s t).1 ht, hend]
  exact ⟨rfl, rfl, rfl, rfl, rfl, rfl, rfl⟩

/-- PACK and UNPK write the datapath, not its index, and deliver. -/
theorem effect_slot_ending (p : Params) (i : Instr) (s : State) (hi : i ∈ [Instr.pack, Instr.unpk]) :
    ∃ d r, effect p i s = deliver r (setDatapath d s) ∧ d.i = s.dp.i := by
  simp only [List.mem_cons, List.not_mem_nil, or_false] at hi
  obtain rfl | rfl := hi
  · exact ⟨_, _, rfl, rfl⟩
  · exact ⟨_, _, rfl, rfl⟩

/-- Settles O54: the datapath apart, delivery writes `STATUS` and the results alone. -/
theorem slotOperationsKeepTheRest : Obligations.SlotOperationsKeepTheRest := by
  intro i s t hi ht
  obtain ⟨d, r, hend, hindex⟩ := effect_slot_ending Config.params i s hi
  rw [(exec_next_iff i s t).1 ht, hend]
  exact ⟨hindex, rfl, rfl, rfl, rfl, rfl, rfl⟩

/-! ### The grid operations -/

/-- The three ways in which a grid operation from `s` can end, `len` being what it has in `LEN` once its descriptor is
accepted: at the descriptor check, at the capacity check, or after the traversal (41 R105, 42 R130, R139). -/
inductive GridEnding (len : Nat) (s : State) : State → Prop where
  | badDescriptor : GridEnding len s (raiseFault .badDescriptor s)
  | capacityExceeded : GridEnding len s (raiseFault .capacityExceeded (setLen len (setN (s.w * s.h) s)))
  | traversed (code : StatusCode) (hcode : code = .done ∨ code = .notWatermarked) (r : Results) (d : Datapath) :
      GridEnding len s (endOperation code r (setDatapath d (setLen len (setN (s.w * s.h) s))))

/-- The descriptor check adds no other ending. -/
theorem gridEnding_withDescriptor {len : Nat} {s : State} (p : Params) (run : State → State)
    (hrun : GridEnding len s (run s)) : GridEnding len s (withDescriptor p run s) := by
  rcases withDescriptor_cases p run s with ⟨_, _, heq⟩ | ⟨_, heq⟩
  · rw [heq]; exact hrun
  · rw [heq]; exact .badDescriptor

/-- The EMBED stage has the number of bytes in `LEN` at either of its ends. -/
theorem embedStage_ending (fmt : Fmt) (data : Bytes) (s : State) :
    GridEnding data.length s (embedStage fmt data s) := by
  rcases embedStage_cases fmt data s with ⟨_, heq⟩ | ⟨_, heq⟩
  · rw [heq]; exact .traversed .done (.inl rfl) _ _
  · rw [heq]; exact .capacityExceeded

/-- EXTRACT ends after the traversal, `LEN` as it was. -/
theorem extractDeliver_ending (fmt : Fmt) (s : State) : GridEnding s.len s (extractDeliver fmt s) := by
  rw [extractDeliver_eq]
  exact .traversed .done (.inl rfl) _ _

/-- DECODE ends after the traversal, with a text or without, `LEN` as it was. -/
theorem decodeStages_ending (p : Params) (fmt : Fmt) (s : State) : GridEnding s.len s (decodeStages p fmt s) := by
  rcases decodeStages_cases p fmt s with ⟨_, _, _, _, heq⟩ | ⟨_, heq⟩
  · rw [heq, extractStage_eq]; exact .traversed .done (.inl rfl) _ _
  · rw [heq, extractStage_eq]; exact .traversed .notWatermarked (.inr rfl) _ _

/-- NORM ends after the traversal, `LEN` as it was. -/
theorem normStage_ending (fmt : Fmt) (s : State) : GridEnding s.len s (normStage fmt s) := by
  rw [normStage_eq]
  exact .traversed .done (.inl rfl) _ _

/-- EXTRACT, DECODE and NORM do not write `LEN` (10 R24). -/
theorem effect_ending_of_keepsLen (p : Params) (i : Instr) (s : State) (fmt : Fmt)
    (hi : i = .extract fmt ∨ i = .decode fmt ∨ i = .norm fmt) : GridEnding s.len s (effect p i s) := by
  obtain rfl | rfl | rfl := hi
  · exact gridEnding_withDescriptor p _ (extractDeliver_ending fmt s)
  · exact gridEnding_withDescriptor p _ (decodeStages_ending p fmt s)
  · exact gridEnding_withDescriptor p _ (normStage_ending fmt s)

/-- Every grid operation ends in one of the three ways. -/
theorem effect_ending_of_takesGrid (p : Params) (i : Instr) (s : State) (hi : i.takesGrid = true) :
    ∃ len, GridEnding len s (effect p i s) := by
  cases i with
  | embed fmt => exact ⟨_, gridEnding_withDescriptor p _ (embedStage_ending fmt _ s)⟩
  | encode fmt => exact ⟨_, gridEnding_withDescriptor p (encodeStages p fmt) (embedStage_ending fmt _ s)⟩
  | extract fmt => exact ⟨_, effect_ending_of_keepsLen p _ s fmt (.inl rfl)⟩
  | decode fmt => exact ⟨_, effect_ending_of_keepsLen p _ s fmt (.inr (.inl rfl))⟩
  | norm fmt => exact ⟨_, effect_ending_of_keepsLen p _ s fmt (.inr (.inr rfl))⟩
  | cmp | dcmp | pack | unpk | utf8e | utf8d => cases hi

section
variable {len : Nat} {s t : State} (hend : GridEnding len s t)
include hend

/-- The command, the dimensions and the operand buffers are the host's (10 R20, R22; 20 R41). -/
theorem GridEnding.keeps_request : t.cmd = s.cmd ∧ t.w = s.w ∧ t.h = s.h ∧ t.opnd = s.opnd := by
  cases hend <;> exact ⟨rfl, rfl, rfl, rfl⟩

/-- An operation that a check ended has not touched the datapath. -/
theorem GridEnding.dp_of_fault (hstatus : t.status = 0x81 ∨ t.status = 0x85) : t.dp = s.dp := by
  cases hend with
  | badDescriptor | capacityExceeded => rfl
  | traversed code hcode r d =>
    obtain rfl | rfl := hcode <;> simp [StatusCode.code] at hstatus

/-- Only the descriptor check ends in `BAD_DESCRIPTOR`, and it comes before `N` and `LEN` are written (60 R176). -/
theorem GridEnding.counts_of_badDescriptor (hstatus : t.status = 0x85) : t.n = s.n ∧ t.len = s.len := by
  cases hend with
  | badDescriptor => exact ⟨rfl, rfl⟩
  | capacityExceeded => simp [FaultCode.code] at hstatus
  | traversed code hcode r d =>
    obtain rfl | rfl := hcode <;> simp [StatusCode.code] at hstatus

end

/-- Where `LEN` is written with its own value it is unchanged at every ending. -/
theorem GridEnding.len_eq {s t : State} (hend : GridEnding s.len s t) : t.len = s.len := by
  cases hend <;> rfl

/-- NORM uses no working register (10 R16): it moves `I` at most. -/
theorem normEffect_dp (p : Params) (fmt : Fmt) (s : State) :
    { (normEffect p fmt s).dp with i := s.dp.i } = s.dp := by
  unfold normEffect
  rcases withDescriptor_cases p (normStage fmt) s with ⟨_, _, heq⟩ | ⟨_, heq⟩
  · rw [heq, normStage_eq]; rfl
  · rw [heq]; rfl

/-- Settles O55: read off the three ways in which a grid operation can end. -/
theorem gridOperationsKeepTheRest : Obligations.GridOperationsKeepTheRest := by
  intro i s t hi ht
  obtain rfl := (exec_next_iff i s t).1 ht
  obtain ⟨len, hend⟩ := effect_ending_of_takesGrid Config.params i s hi
  obtain ⟨hcmd, hw, hh, hopnd⟩ := hend.keeps_request
  refine ⟨hcmd, hw, hh, hopnd, fun fmt hkeeps => ?_, fun fmt hnorm => ?_, hend.dp_of_fault,
    hend.counts_of_badDescriptor⟩
  · exact (effect_ending_of_keepsLen Config.params i s fmt hkeeps).len_eq
  · subst hnorm
    exact normEffect_dp Config.params fmt s

end Sys2Proof.Machine
end

section
/-!
PROOF. The working registers after a traversal (10 R16, R18): the pixel in the registers is the last one written, and `C` is
the last byte injected.
-/

namespace Sys2Proof.Machine

/-- The last step of a traversal. -/
theorem traverse_concat {α : Type} (f : Datapath → SrcElem → Datapath × α) (xs : List SrcElem) (e : SrcElem)
    (d : Datapath) :
    traverse f (xs ++ [e]) d
      = (advance (f (traverse f xs d).1 e).1, (traverse f xs d).2 ++ [(f (traverse f xs d).1 e).2]) :=
  traverse_append f xs [e] d

/-- Where an action writes the pixel it leaves in the registers, they hold the last pixel of the buffer at the end. -/
theorem traverse_regPixel (f : Datapath → SrcElem → Datapath × Pixel) (hf : ∀ d e, regPixel (f d e).1 = (f d e).2)
    (src : List SrcElem) (d : Datapath) :
    regPixel (traverse f src d).1 = (traverse f src d).2.getLast?.getD (regPixel d) := by
  rcases List.eq_nil_or_concat src with rfl | ⟨xs, e, rfl⟩
  · rfl
  · rw [List.concat_eq_append, traverse_concat]
    simp [hf]

/-- A step of EMBED loads `C` where a byte is left (41 R105). -/
@[simp] theorem embedPixel_c (fmt : Fmt) (data : Bytes) (d : Datapath) (e : SrcElem) :
    (embedPixel fmt data d e).1.c = data[d.i]?.getD d.c := by
  unfold embedPixel; dsimp only; split
  · next h => simp [h]
  · next h => simp [List.getElem?_eq_none (Nat.le_of_not_lt h)]

/-- The EMBED traversal leaves in `C` the last of the bytes it came to, or `C` as it was. -/
theorem traverse_embed_c (fmt : Fmt) (data : Bytes) (src : List SrcElem) (d : Datapath) :
    (traverse (embedPixel fmt data) src d).1.c = ((data.drop d.i).take src.length).getLast?.getD d.c := by
  induction src generalizing d with
  | nil => simp
  | cons e es ih =>
    rw [traverse_cons, ih]
    simp only [advance_i, advance_c, embedPixel_i, embedPixel_c, List.length_cons]
    rcases Nat.lt_or_ge d.i data.length with hlt | hge
    · rw [List.drop_eq_getElem_cons hlt, List.take_succ_cons, List.getLast?_cons, List.getElem?_eq_getElem hlt]
      rfl
    · simp [List.drop_eq_nil_of_le hge, List.drop_eq_nil_of_le (Nat.le_succ_of_le hge), hge]

/-- With a pixel for every byte, `C` ends with the last byte. -/
theorem traverse_embed_c_of_fits (fmt : Fmt) (data : Bytes) (src : List SrcElem) (d : Datapath)
    (hfits : data.length ≤ src.length) :
    (traverse (embedPixel fmt data) src (startIndex d)).1.c = data.getLast?.getD d.c := by
  rw [traverse_embed_c, startIndex_i, startIndex_c, List.drop_zero, List.take_of_length_le hfits]

/-- The pixel in the registers after the EMBED traversal is the last of `OUT`. -/
theorem traverse_embed_regPixel (fmt : Fmt) (data : Bytes) (src : List SrcElem) (d : Datapath) :
    regPixel (traverse (embedPixel fmt data) src (startIndex d)).1
      = (src.mapIdx (embedElement fmt data)).getLast?.getD (regPixel d) := by
  rw [traverse_regPixel _ fun d e => (embedPixel_regs fmt data d e).trans (embedPixel_out fmt data d e).symm,
    traverse_embed, regPixel_startIndex]

/-- An EMBED that delivers a grid passed both checks, and the whole next state is that of its traversal. -/
theorem withDescriptor_embedStage_of_out (p : Params) (fmt : Fmt) (data : Bytes) (s : State) (g : Grid)
    (hout : (withDescriptor p (embedStage fmt data) s).rslt.out = some g) :
    s.opnd.src.length = s.w * s.h ∧ data.length ≤ s.w * s.h
      ∧ g.px = s.opnd.src.mapIdx (embedElement fmt data)
      ∧ withDescriptor p (embedStage fmt data) s
        = deliver (outResult g)
            (setDatapath (traverse (embedPixel fmt data) s.opnd.src (startIndex s.dp)).1
              (setLen data.length (setN (s.w * s.h) s))) := by
  rcases withDescriptor_cases p (embedStage fmt data) s with ⟨hshape, _, heq⟩ | ⟨_, heq⟩
  · rcases embedStage_cases fmt data s with ⟨hfits, hrun⟩ | ⟨_, hrun⟩
    · rw [heq, hrun] at hout
      obtain rfl := Option.some.inj hout
      exact ⟨hshape, hfits, rfl, heq.trans hrun⟩
    · rw [heq, hrun] at hout
      cases hout
  · rw [heq] at hout
    cases hout

/-- Either way to run the EMBED stage: on `DATA`, or on the compressed text (41 R115). -/
theorem embedding_eq (fmt : Fmt) (s t : State) (data : Bytes)
    (ht : data = s.opnd.data ∧ exec (.embed fmt) s = .next t
      ∨ data = Config.params.K.compress (utf8Encode s.opnd.txt) ∧ exec (.encode fmt) s = .next t) :
    t = withDescriptor Config.params (embedStage fmt data) s := by
  obtain ⟨rfl, ht⟩ | ⟨rfl, ht⟩ := ht <;> exact (exec_next_iff _ s t).1 ht

/-- Settles O29: a delivered grid says that both checks passed, so the registers are those the traversal leaves. -/
theorem embedRegistersAfterTheTraversal : Obligations.EmbedRegistersAfterTheTraversal := by
  intro fmt s t data g ht hout
  obtain rfl := embedding_eq fmt s t data ht
  obtain ⟨hshape, hfits, hpx, heq⟩ := withDescriptor_embedStage_of_out Config.params fmt data s g hout
  rw [heq]
  have hindex := traverse_index _ (embedPixel_i fmt data) s.opnd.src (startIndex s.dp)
  have hc := traverse_embed_c_of_fits fmt data s.opnd.src s.dp (hshape ▸ hfits)
  have hregs := traverse_embed_regPixel fmt data s.opnd.src s.dp
  rw [← hpx] at hregs
  refine ⟨rfl, rfl, ?_, fun p hp => ?_, fun hnil => ?_, fun c hlast => ?_, fun hnil => ?_⟩
  · simpa [hshape] using hindex
  · rw [hp, Option.getD_some] at hregs
    exact ⟨congrArg Pixel.r hregs, congrArg Pixel.g hregs, congrArg Pixel.b hregs⟩
  · rw [hnil, List.getLast?_nil, Option.getD_none] at hregs
    exact ⟨congrArg Pixel.r hregs, congrArg Pixel.g hregs, congrArg Pixel.b hregs⟩
  · simpa [hlast] using hc
  · simpa [hnil] using hc

end Sys2Proof.Machine
end

section
/-!
PROOF. The buffers (20 R42, R48): the row-major index and its inverse, the flattened layout, and the fields of a
pixel word.
-/

namespace Sys2Proof.Machine

/-! ### The row-major index -/

/-- Division by the width undoes the index, and the index undoes the division. -/
theorem rowMajor_eq_iff {w x y i : Nat} (hx : x < w) : rowMajor w x y = i ↔ i / w = y ∧ i % w = x := by
  rw [Nat.div_mod_unique (Nat.zero_lt_of_lt hx), and_iff_left hx, rowMajor, Nat.add_comm, Nat.mul_comm]

theorem rowMajor_div {w x : Nat} (y : Nat) (hx : x < w) : rowMajor w x y / w = y := ((rowMajor_eq_iff hx).1 rfl).1

theorem rowMajor_mod {w x : Nat} (y : Nat) (hx : x < w) : rowMajor w x y % w = x := ((rowMajor_eq_iff hx).1 rfl).2

/-- An index lies in the grid exactly when its row does. -/
theorem rowMajor_lt_iff {w x : Nat} (y h : Nat) (hx : x < w) : rowMajor w x y < w * h ↔ y < h := by
  rw [Nat.mul_comm, ← Nat.div_lt_iff_lt_mul (Nat.zero_lt_of_lt hx), rowMajor_div y hx]

/-- Inside the grid the pixel at a position is the element at its index. -/
theorem pixelAt_eq_getElem? {g : Grid} {x y : Nat} (hx : x < g.w) (hy : y < g.h) :
    pixelAt g x y = g.px[rowMajor g.w x y]? :=
  if_pos ⟨hx, hy⟩

/-- Settles O56: `rowMajor_eq_iff` gives both inverses; an index below `w * h` says that the width is not 0. -/
theorem rowMajorIndexIsABijection : Obligations.RowMajorIndexIsABijection := by
  intro w h
  refine ⟨fun x y hx hy => ?_, fun i hi => ?_, fun px x y hlen hx hy => ?_⟩
  · exact ⟨(rowMajor_lt_iff y h hx).2 hy, rowMajor_div y hx, rowMajor_mod y hx⟩
  · have hw : 0 < w := Nat.pos_of_mul_pos_right (Nat.zero_lt_of_lt hi)
    have hmod : i % w < w := Nat.mod_lt i hw
    exact ⟨hmod, Nat.div_lt_of_lt_mul hi, (rowMajor_eq_iff hmod).2 ⟨rfl, rfl⟩⟩
  · have hin : y * w + x < px.length := hlen ▸ (rowMajor_lt_iff y h hx).2 hy
    exact ⟨pixelAt_eq_getElem? hx hy, by rw [List.getElem?_eq_getElem hin]; rfl⟩

/-! ### The flattened layout -/

/-- The bytes of the first element come first. -/
@[simp] theorem flatten_cons (e : SrcElem) (es : List SrcElem) : flatten (e :: es) = elemBytes e ++ flatten es := rfl

/-- Where every element of a buffer has `k` bytes, byte `j` of element `i` stands at `k * i + j`. -/
theorem flatten_map_getElem? {α : Type} {f : α → SrcElem} {k : Nat} (hk : ∀ a, (elemBytes (f a)).length = k)
    {px : List α} {i : Nat} {p : α} (hi : px[i]? = some p) {j : Nat} (hj : j < k) :
    (flatten (px.map f))[k * i + j]? = (elemBytes (f p))[j]? := by
  induction px generalizing i with
  | nil => simp at hi
  | cons q qs ih =>
    rw [List.map_cons, flatten_cons]
    cases i with
    | zero =>
      obtain rfl : q = p := Option.some.inj hi
      rw [Nat.mul_zero, Nat.zero_add, List.getElem?_append_left (hk q ▸ hj)]
    | succ i =>
      have hskip : k * (i + 1) + j = (elemBytes (f q)).length + (k * i + j) := by rw [hk, Nat.mul_succ]; omega
      rw [hskip, List.getElem?_append_right (Nat.le_add_right ..), Nat.add_sub_cancel_left]
      exact ih hi

/-! ### The pixel words -/

/-- Skipping the lower part of a concatenation leaves a field of the upper part. -/
theorem extractLsb'_append_add {v w : Nat} (hi : BitVec v) (lo : BitVec w) (start len : Nat) :
    (hi ++ lo).extractLsb' (w + start) len = hi.extractLsb' start len := by
  rw [BitVec.extractLsb'_append_eq_of_le (Nat.le_add_right ..), Nat.add_sub_cancel_left]

/-- The 24-bit word is `{r, g, b}`: each channel is one of its bytes. -/
theorem pixelWord_channels (p : Pixel) :
    (pixelWord p).extractLsb' 16 8 = p.r ∧ (pixelWord p).extractLsb' 8 8 = p.g
      ∧ (pixelWord p).extractLsb' 0 8 = p.b := by
  refine ⟨?_, ?_, BitVec.extractLsb'_append_eq_right⟩
  · exact (extractLsb'_append_add (p.r ++ p.g) p.b 8 8).trans BitVec.extractLsb'_append_eq_left
  · exact (extractLsb'_append_add (p.r ++ p.g) p.b 0 8).trans BitVec.extractLsb'_append_eq_right

/-- The 32-bit word is the 24-bit word of the three channels with alpha below it. -/
theorem pixel4Word_eq (p : Pixel4) : pixel4Word p = pixelWord ⟨p.r, p.g, p.b⟩ ++ p.a := rfl

/-- The 32-bit word is `{r, g, b, a}`: each channel is one of its bytes. -/
theorem pixel4Word_channels (p : Pixel4) :
    (pixel4Word p).extractLsb' 24 8 = p.r ∧ (pixel4Word p).extractLsb' 16 8 = p.g
      ∧ (pixel4Word p).extractLsb' 8 8 = p.b ∧ (pixel4Word p).extractLsb' 0 8 = p.a := by
  obtain ⟨hr, hg, hb⟩ := pixelWord_channels ⟨p.r, p.g, p.b⟩
  have hup := extractLsb'_append_add (pixelWord ⟨p.r, p.g, p.b⟩) p.a
  rw [pixel4Word_eq]
  exact ⟨(hup 16 8).trans hr, (hup 8 8).trans hg, (hup 0 8).trans hb, BitVec.extractLsb'_append_eq_right⟩

/-- Settles O57: the layout by the size of an element, and the words by their bytes. -/
theorem flattenedLayoutIsRedGreenBlueAlpha : Obligations.FlattenedLayoutIsRedGreenBlueAlpha := by
  refine ⟨fun px i p hi => ?_, fun px i p hi => ?_, pixelWord_channels, pixel4Word_channels⟩
  · have hbyte (j : Nat) (hj : j < 3) := flatten_map_getElem? (f := .rgb) (fun _ => rfl) hi hj
    exact ⟨hbyte 0 (by decide), hbyte 1 (by decide), hbyte 2 (by decide)⟩
  · have hbyte (j : Nat) (hj : j < 4) := flatten_map_getElem? (f := .rgba) (fun _ => rfl) hi hj
    exact ⟨hbyte 0 (by decide), hbyte 1 (by decide), hbyte 2 (by decide), hbyte 3 (by decide)⟩

end Sys2Proof.Machine
end

section
/-!
PROOF. The command byte (30 R71 to R75): its fields, the decoder as the inverse of the encoder, and the bytes that are no
operation's.
-/

namespace Sys2Proof

/-! ### The fields of a command byte -/

/-- `OP = CMD[3:0] = {DIR, STG}` of an operation (30 R71). -/
def Instr.op (i : Instr) : BitVec 4 := BitVec.ofBool i.dir ++ i.stg

/-- The command byte is `{000, FMT, OP}` (30 R71). -/
theorem encode_eq (i : Instr) : encode i = 0#3 ++ BitVec.ofBool i.fmt.bit ++ i.op :=
  BitVec.append_assoc

/-- A byte is the concatenation of its fields `CMD[7:5]`, `FMT` and `OP`. -/
theorem commandByte_eq_fields (b : Byte) :
    b.extractLsb' 5 3 ++ BitVec.ofBool (b.getLsbD 4) ++ b.extractLsb' 0 4 = b := by
  have hfmt : BitVec.ofBool (b.getLsbD 4) = b.extractLsb' 4 1 := by
    ext i hi
    obtain rfl : i = 0 := Nat.lt_one_iff.1 hi
    simp
  rw [hfmt, BitVec.extractLsb'_append_extractLsb'_eq_extractLsb' (start₂ := 5) (start₁ := 4) rfl,
    BitVec.extractLsb'_append_extractLsb'_eq_extractLsb' (start₂ := 4) (start₁ := 0) rfl]
  exact BitVec.extractLsb'_eq_self

@[simp] theorem fmtOfBit_bit (fmt : Fmt) : fmtOfBit fmt.bit = fmt := by cases fmt <;> rfl

@[simp] theorem bit_fmtOfBit (b : Bool) : (fmtOfBit b).bit = b := by cases b <;> rfl

/-- The family `WordFields` as one statement over the operations. -/
theorem wordFields (i : Instr) : Laws.WordFields.Statement i := by
  cases i with
  | cmp => exact Laws.WordFields.cmp
  | dcmp => exact Laws.WordFields.dcmp
  | pack => exact Laws.WordFields.pack
  | embed fmt => exact Laws.WordFields.embed fmt
  | encode fmt => exact Laws.WordFields.encode fmt
  | unpk => exact Laws.WordFields.unpk
  | extract fmt => exact Laws.WordFields.extract fmt
  | decode fmt => exact Laws.WordFields.decode fmt
  | norm fmt => exact Laws.WordFields.norm fmt
  | utf8e => exact Laws.WordFields.utf8e
  | utf8d => exact Laws.WordFields.utf8d

/-- A byte is an operation's byte exactly when its three fields are those of the operation. -/
theorem encode_eq_iff (i : Instr) (b : Byte) :
    encode i = b ↔ b.extractLsb' 5 3 = 0 ∧ i.op = b.extractLsb' 0 4 ∧ i.fmt = fmtOfBit (b.getLsbD 4) := by
  constructor
  · rintro rfl
    obtain ⟨hzero, hfmt, _⟩ := wordFields i
    refine ⟨hzero, ?_, ?_⟩
    · rw [encode_eq, BitVec.extractLsb'_append_eq_right]
    · rw [hfmt, fmtOfBit_bit]
  · rintro ⟨hzero, hop, hfmt⟩
    rw [encode_eq, hop, hfmt, bit_fmtOfBit]
    conv_rhs => rw [← commandByte_eq_fields b, hzero]
    rfl

/-! ### The decoder -/

/-- Without a grid an operation decodes with `FMT = 0` alone (30 R73). -/
theorem withoutGrid_eq_ok {fmt : Fmt} {i j : Instr} (h : withoutGrid fmt i = .ok j) : fmt = .rgb ∧ i = j := by
  cases fmt with
  | rgb => exact ⟨rfl, Except.ok.inj h⟩
  | rgba => cases h

/-- The operation table read from its right side: the fields of an operation name it. -/
theorem decodeOp_op (i : Instr) : decodeOp i.op.toNat i.fmt = .ok i := by
  cases i with
  | cmp | dcmp | pack | unpk | utf8e | utf8d => rfl
  | embed fmt | encode fmt | extract fmt | decode fmt | norm fmt => cases fmt <;> rfl

/-- The operation table read from its left side: what the fields name has those fields. -/
theorem op_fmt_of_decodeOp {op : Nat} {fmt : Fmt} {i : Instr} (h : decodeOp op fmt = .ok i) :
    i.op.toNat = op ∧ i.fmt = fmt := by
  unfold decodeOp at h
  split at h
  -- the arms without a grid, the arms with one, and the reserved values of `OP`
  case h_1 | h_2 | h_4 | h_7 | h_8 | h_10 => obtain ⟨rfl, rfl⟩ := withoutGrid_eq_ok h; exact ⟨rfl, rfl⟩
  case h_3 | h_5 | h_6 | h_9 | h_11 => cases h; cases fmt <;> exact ⟨rfl, rfl⟩
  case h_12 => cases h

theorem decode_of_zero {b : Byte} (h : b.extractLsb' 5 3 = 0) :
    decode b = decodeOp (b.extractLsb' 0 4).toNat (fmtOfBit (b.getLsbD 4)) :=
  if_neg (not_not.2 h)

theorem decode_of_ne_zero {b : Byte} (h : b.extractLsb' 5 3 ≠ 0) : decode b = .error .reservedBits :=
  if_pos h

/-- The decoder inverts the encoder, and decodes nothing else (30 R71 to R73). -/
theorem decode_eq_ok_iff (b : Byte) (i : Instr) : decode b = .ok i ↔ encode i = b := by
  rw [encode_eq_iff]
  by_cases hzero : b.extractLsb' 5 3 = 0
  · rw [decode_of_zero hzero, and_iff_right hzero]
    constructor
    · intro h
      obtain ⟨hop, hfmt⟩ := op_fmt_of_decodeOp h
      exact ⟨BitVec.eq_of_toNat_eq hop, hfmt⟩
    · rintro ⟨hop, hfmt⟩
      rw [← hop, ← hfmt]; exact decodeOp_op i
  · rw [decode_of_ne_zero hzero]
    exact iff_of_false nofun fun h => hzero h.1

/-- The constructors carry `FMT` only where there is a grid. -/
theorem Instr.wf_eq_true (i : Instr) : i.wf = true := by
  obtain ⟨_, _, _, _, hwf⟩ := wordFields i
  exact hwf

/-- Settles O2: both directions are `decode_eq_ok_iff`. -/
theorem decodeAndEncodeAgree : Obligations.DecodeAndEncodeAgree :=
  ⟨fun i _ => (decode_eq_ok_iff _ i).2 rfl, fun b i h => ⟨i.wf_eq_true, (decode_eq_ok_iff b i).1 h⟩⟩

/-- Settles O1: each byte of the table is the one its operation is encoded as. -/
theorem commandBytesNameTheirOperations : Obligations.CommandBytesNameTheirOperations := by
  simp only [Obligations.CommandBytesNameTheirOperations, decode_eq_ok_iff]
  decide

/-! ### The illegal bytes -/

/-- Every operation's byte is in the table (30 R72). -/
theorem encode_mem_legalCommandBytes (i : Instr) : encode i ∈ legalCommandBytes := by
  cases i with
  | cmp | dcmp | pack | unpk | utf8e | utf8d => decide
  | embed fmt | encode fmt | extract fmt | decode fmt | norm fmt => cases fmt <;> decide

/-- Every byte of the table is an operation's (30 R72). -/
theorem isSome_decode?_of_mem : ∀ b ∈ legalCommandBytes, (decode? b).isSome := by decide

theorem isSome_decode?_iff (b : Byte) : (decode? b).isSome = true ↔ ∃ i, decode b = .ok i := by
  simp only [Option.isSome_iff_exists, decode?_eq_some_iff]

/-- The legal bytes are those of the table (30 R75). -/
theorem decode_ok_iff_mem (b : Byte) : (∃ i, decode b = .ok i) ↔ b ∈ legalCommandBytes := by
  constructor
  · rintro ⟨i, h⟩
    obtain rfl := (decode_eq_ok_iff b i).1 h
    exact encode_mem_legalCommandBytes i
  · exact fun h => (isSome_decode?_iff b).1 (isSome_decode?_of_mem b h)

theorem exists_eq_error_iff {ε α : Type} (x : Except ε α) : (∃ e, x = .error e) ↔ x.toBool = false := by
  cases x <;> simp [Except.toBool]

/-- The causes that lie in `OP` and `FMT` (30 R75). -/
theorem decodeOp_error_iff (op : BitVec 4) (bit : Bool) :
    (∃ e, decodeOp op.toNat (fmtOfBit bit) = .error e) ↔
      op ∈ [0x0#4, 0x7#4, 0x8#4, 0xE#4, 0xF#4]
        ∨ (bit = true ∧ op ∈ [0x1#4, 0x9#4, 0x2#4, 0xA#4, 0x4#4, 0xC#4]) := by
  rw [exists_eq_error_iff]
  revert op bit
  decide

/-- The cause that lies in `CMD[7:5]`, and the others (30 R75). -/
theorem decode_error_iff (b : Byte) : (∃ e, decode b = .error e) ↔
    b.extractLsb' 5 3 ≠ 0 ∨ ∃ e, decodeOp (b.extractLsb' 0 4).toNat (fmtOfBit (b.getLsbD 4)) = .error e := by
  by_cases hzero : b.extractLsb' 5 3 = 0
  · rw [decode_of_zero hzero, or_iff_right (not_not.2 hzero)]
  · exact iff_of_true ⟨_, decode_of_ne_zero hzero⟩ (.inl hzero)

/-- Counted through the 256 bytes, the legal ones are the table's, each once. -/
theorem legalBytes_perm :
    ((List.range 256).filter fun n => (decode? (BitVec.ofNat 8 n)).isSome).Perm (legalCommandBytes.map BitVec.toNat) := by
  refine (List.perm_ext_iff_of_nodup (List.nodup_range.filter _) (by decide)).2 fun n => ?_
  rw [List.mem_filter, List.mem_range, isSome_decode?_iff, decode_ok_iff_mem, List.mem_map]
  constructor
  · rintro ⟨hlt, hmem⟩
    exact ⟨_, hmem, (BitVec.toNat_ofNat ..).trans (Nat.mod_eq_of_lt hlt)⟩
  · rintro ⟨b, hmem, rfl⟩
    exact ⟨b.isLt, by rwa [BitVec.ofNat_toNat, BitVec.setWidth_eq]⟩

/-- The table has sixteen bytes. -/
theorem legalBytes_count :
    ((List.range 256).filter fun n => (decode? (BitVec.ofNat 8 n)).isSome).length = 16 :=
  legalBytes_perm.length_eq

/-- The other 240 of the 256 bytes are illegal. -/
theorem illegalBytes_count :
    ((List.range 256).filter fun n => (decode? (BitVec.ofNat 8 n)).isNone).length = 240 := by
  have hsplit := List.length_eq_length_filter_add (l := List.range 256) fun n => (decode? (BitVec.ofNat 8 n)).isSome
  rw [List.length_range, legalBytes_count] at hsplit
  simp only [Option.not_isSome] at hsplit
  omega

end Sys2Proof

namespace Sys2Proof.Machine

/-- An illegal command takes its fault (60 R170). -/
theorem step_illegal (s : State) (e : Illegal) (h : s.pending = true) (hd : decode s.cmd = .error e) :
    step s = .next (raiseFault .illegalCommand s) := by
  rw [step_eq_stepWith, stepWith_illegal _ s e h hd]

/-- Settles O3: the table gives the legal bytes and their number, the decoder's three tests the causes, and the fault's end
writes what an illegal command writes. -/
theorem illegalCommandsAreTheOther240 : Obligations.IllegalCommandsAreTheOther240 := by
  refine ⟨decode_ok_iff_mem, fun b => ?_, legalBytes_count, illegalBytes_count, rfl, step_illegal⟩
  rw [decode_error_iff, decodeOp_error_iff]

end Sys2Proof.Machine
end

section
/-!
PROOF. The invariant (30 R78, 60 R166, 20 R56): a step keeps it because every ending of an operation establishes it.
-/

namespace Sys2Proof.Machine

/-! ### The three ends of an operation -/

/-- One complete result under `DONE` meets the invariant. -/
theorem deliver_inv {r : Results} (hcount : r.count = 1) (hwf : r.wf = true) (s : State) :
    (deliver r s).Inv = true := by
  have hstatus : statusLegal (deliver r s) = true := rfl
  have hresults : resultsMatchStatus (deliver r s) = true := (if_pos rfl).trans (decide_eq_true hcount)
  rw [State.Inv, hstatus, hresults, deliver_rslt, hwf]; rfl

/-- No result under any other code meets the invariant. -/
theorem endOperation_absent_inv {code : StatusCode} (hlegal : code.code ∈ statusValues)
    (hcode : code.code ≠ StatusCode.done.code) (s : State) : (endOperation code Results.absent s).Inv = true := by
  have hstatus : statusLegal (endOperation code Results.absent s) = true := decide_eq_true hlegal
  have hresults : resultsMatchStatus (endOperation code Results.absent s) = true :=
    (if_neg hcode).trans (decide_eq_true rfl)
  rw [State.Inv, hstatus, hresults, endOperation_rslt, absent_wf]; rfl

/-- A fault meets the invariant. -/
theorem raiseFault_inv (f : FaultCode) (s : State) : (raiseFault f s).Inv = true := by
  have hcode : (StatusCode.fault f).code ∈ statusValues ∧ (StatusCode.fault f).code ≠ StatusCode.done.code := by
    cases f <;> decide
  exact endOperation_absent_inv hcode.1 hcode.2 s

/-- "Not watermarked" meets the invariant. -/
theorem answerNotWatermarked_inv (s : State) : (answerNotWatermarked s).Inv = true :=
  endOperation_absent_inv (by decide) (by decide) s

/-! ### The grid operations -/

/-- A grid operation meets the invariant if its stages do on a source of `W * H` elements. -/
theorem withDescriptor_inv (p : Params) (run : State → State) (s : State)
    (hrun : s.opnd.src.length = s.w * s.h → (run s).Inv = true) : (withDescriptor p run s).Inv = true := by
  rcases withDescriptor_cases p run s with ⟨hshape, _, heq⟩ | ⟨_, heq⟩
  · rw [heq]; exact hrun hshape
  · rw [heq]; exact raiseFault_inv _ s

/-- A delivered grid with one pixel for every element of the source is complete. -/
theorem deliver_outResult_inv {w h : Nat} {px : List Pixel} (hpx : px.length = w * h) (s : State) :
    (deliver (outResult { w := w, h := h, px := px }) s).Inv = true :=
  deliver_inv rfl (by rw [outResult_wf, Grid.wf, hpx, decide_eq_true rfl]) s

/-- The EMBED stage writes one pixel for every element of the source (41 R108), or takes its fault. -/
theorem embedStage_inv (fmt : Fmt) (data : Bytes) (s : State) (hshape : s.opnd.src.length = s.w * s.h) :
    (embedStage fmt data s).Inv = true := by
  rcases embedStage_cases fmt data s with ⟨_, heq⟩ | ⟨_, heq⟩
  · rw [heq]; exact deliver_outResult_inv (by rw [List.length_mapIdx, hshape]) _
  · rw [heq]; exact raiseFault_inv _ _

/-- The stages of DECODE deliver a text or answer "not watermarked" (42 R139). -/
theorem decodeStages_inv (p : Params) (fmt : Fmt) (s : State) : (decodeStages p fmt s).Inv = true := by
  rcases decodeStages_cases p fmt s with ⟨_, _, _, _, heq⟩ | ⟨_, heq⟩
  · rw [heq]; exact deliver_inv rfl rfl _
  · rw [heq]; exact answerNotWatermarked_inv _

/-- NORM writes one pixel for every element of the source (43 R150). -/
theorem normStage_inv (fmt : Fmt) (s : State) (hshape : s.opnd.src.length = s.w * s.h) :
    (normStage fmt s).Inv = true := by
  rw [normStage_eq]
  exact deliver_outResult_inv (by rw [List.length_map, hshape]) _

/-! ### Every operation and every step -/

/-- Every operation establishes the invariant, whatever state it starts from. -/
theorem effect_inv (p : Params) (i : Instr) (s : State) : (effect p i s).Inv = true := by
  cases i with
  | cmp | pack | unpk | utf8e => exact deliver_inv rfl rfl _
  | dcmp =>
    simp only [effect, dcmpEffect]
    cases p.K.decompress s.opnd.data with
    | some plain => exact deliver_inv rfl rfl s
    | none => exact raiseFault_inv _ s
  | utf8d =>
    simp only [effect, utf8dEffect]
    cases utf8Decode s.opnd.plain with
    | some t => exact deliver_inv rfl rfl s
    | none => exact raiseFault_inv _ s
  | embed fmt => exact withDescriptor_inv p _ s (embedStage_inv fmt _ s)
  | encode fmt => exact withDescriptor_inv p (encodeStages p fmt) s (embedStage_inv fmt _ s)
  | extract fmt => exact withDescriptor_inv p (extractDeliver fmt) s fun _ => deliver_inv rfl rfl _
  | decode fmt => exact withDescriptor_inv p _ s fun _ => decodeStages_inv p fmt s
  | norm fmt => exact withDescriptor_inv p _ s (normStage_inv fmt s)

/-- Only an idle step needs the invariant of the state before it. -/
theorem stepWith_inv (p : Params) (s : State) (hs : s.Inv = true) : (stepWith p s).Inv = true := by
  cases hpending : s.pending with
  | false => rw [stepWith_idle p s hpending]; exact hs
  | true =>
    cases hd : decode s.cmd with
    | ok i => rw [stepWith_legal p s i hpending hd]; exact effect_inv p i s
    | error e => rw [stepWith_illegal p s e hpending hd]; exact raiseFault_inv _ s

/-- Settles O9: every operation ends in one of three ways, each of which meets the invariant; an idle step changes
nothing. -/
theorem stepKeepsTheInvariant : Obligations.StepKeepsTheInvariant := by
  intro s t hs ht
  rw [(step_next_iff s t).1 ht]
  exact stepWith_inv Config.params s hs

end Sys2Proof.Machine
end

section
/-!
PROOF. The carrier format (30 R63 to R68): the masks and shifts said as fields of the operands, once; the arithmetic, the
bounds and the round trip are read off those fields.
-/

namespace Sys2Proof.Machine

/-! ### Masks as fields -/

/-- A mask of high bits keeps the high field. -/
theorem and_keepMask {hi lo : Nat} (x : BitVec (hi + lo)) :
    x &&& (BitVec.allOnes hi ++ 0#lo) = x.extractLsb' lo hi ++ 0#lo := by
  conv_lhs => rw [← BitVec.extractLsb'_append_extractLsb' (x := x), BitVec.and_append]
  rw [BitVec.and_allOnes, BitVec.and_zero]

/-- A mask of low bits selects the low field. -/
theorem and_selectMask {hi lo : Nat} (x : BitVec (hi + lo)) :
    x &&& (0#hi ++ BitVec.allOnes lo) = 0#hi ++ x.extractLsb' 0 lo := by
  conv_lhs => rw [← BitVec.extractLsb'_append_extractLsb' (x := x), BitVec.and_append]
  rw [BitVec.and_zero, BitVec.and_allOnes]

/-- Shifting right brings the field at `k` to bit 0. -/
theorem extractLsb'_zero_ushiftRight {w : Nat} (x : BitVec w) (k len : Nat) :
    (x >>> k).extractLsb' 0 len = x.extractLsb' k len := by
  ext i hi
  simp

/-- The form of an injected channel: the high field of the channel above the field of the byte at `k` (30 R64). -/
theorem keep_or_select {hi lo : Nat} (x c : BitVec (hi + lo)) (k : Nat) :
    (x &&& (BitVec.allOnes hi ++ 0#lo)) ||| ((c >>> k) &&& (0#hi ++ BitVec.allOnes lo))
      = x.extractLsb' lo hi ++ c.extractLsb' k lo := by
  rw [and_keepMask, and_selectMask, extractLsb'_zero_ushiftRight, BitVec.or_append, BitVec.or_zero, BitVec.zero_or]

/-- Zeros above a field widen it. -/
theorem zero_append_eq_setWidth {hi lo : Nat} (x : BitVec lo) : 0#hi ++ x = x.setWidth (hi + lo) := by
  rw [BitVec.setWidth_eq_append (Nat.le_add_left lo hi)]
  simp

/-! ### Injection and extraction as fields (30 R63) -/

/-- `{r[7:3], c[7:5]}`. -/
theorem injectRed_eq (red c : Byte) : injectRed red c = red.extractLsb' 3 5 ++ c.extractLsb' 5 3 := by
  rw [injectRed, BitVec.ushiftRight_and_distrib]
  exact keep_or_select (hi := 5) (lo := 3) red c 5

/-- `{g[7:2], c[4:3]}`. -/
theorem injectGreen_eq (green c : Byte) : injectGreen green c = green.extractLsb' 2 6 ++ c.extractLsb' 3 2 := by
  rw [injectGreen, BitVec.ushiftRight_and_distrib]
  exact keep_or_select (hi := 6) (lo := 2) green c 3

/-- `{b[7:3], c[2:0]}`. -/
theorem injectBlue_eq (blue c : Byte) : injectBlue blue c = blue.extractLsb' 3 5 ++ c.extractLsb' 0 3 :=
  keep_or_select (hi := 5) (lo := 3) blue c 0

/-- Injection replaces the slots by the three fields of the byte. -/
theorem packPixel_eq (p : Pixel) (c : Byte) :
    packPixel p c
      = { r := p.r.extractLsb' 3 5 ++ c.extractLsb' 5 3
          g := p.g.extractLsb' 2 6 ++ c.extractLsb' 3 2
          b := p.b.extractLsb' 3 5 ++ c.extractLsb' 0 3 } := by
  rw [packPixel, injectRed_eq, injectGreen_eq, injectBlue_eq]

/-- Extraction puts the three slots side by side: each is selected, widened and shifted to its place. -/
theorem unpackPixel_eq (p : Pixel) :
    unpackPixel p = p.r.extractLsb' 0 3 ++ p.g.extractLsb' 0 2 ++ p.b.extractLsb' 0 3 := by
  have hred : p.r &&& 0x07 = _ := and_selectMask (hi := 5) (lo := 3) p.r
  have hgreen : p.g &&& 0x03 = _ := and_selectMask (hi := 6) (lo := 2) p.g
  have hblue : p.b &&& 0x07 = _ := and_selectMask (hi := 5) (lo := 3) p.b
  rw [unpackPixel, hred, hgreen, hblue, zero_append_eq_setWidth, zero_append_eq_setWidth, zero_append_eq_setWidth]
  rw [← BitVec.setWidth_append_append_eq_shiftLeft_setWidth_or (w' := 2) (w'' := 3), BitVec.setWidth_eq]

/-- Settles O10: the fields that the masks and shifts of both formulas select. -/
theorem carrierByteIsCutThreeTwoThree : Obligations.CarrierByteIsCutThreeTwoThree :=
  fun p c => ⟨packPixel_eq p c, unpackPixel_eq p⟩

/-! ### The fields as numbers (30 R67) -/

theorem toNat_append_eq_add {v w : Nat} (hi : BitVec v) (lo : BitVec w) :
    (hi ++ lo).toNat = 2 ^ w * hi.toNat + lo.toNat := by
  rw [BitVec.toNat_append, ← Nat.shiftLeft_add_eq_or_of_lt lo.isLt, Nat.shiftLeft_eq, Nat.mul_comm]

theorem toNat_extractLsb'_eq_div_mod {w : Nat} (x : BitVec w) (start len : Nat) :
    (x.extractLsb' start len).toNat = x.toNat / 2 ^ start % 2 ^ len := by
  rw [BitVec.extractLsb'_toNat, Nat.shiftRight_eq_div_pow]

theorem packPixel_r_toNat (p : Pixel) (c : Byte) :
    (packPixel p c).r.toNat = 8 * (p.r.toNat / 8) + c.toNat / 32 := by
  have hr : p.r.toNat < 256 := p.r.isLt
  have hc : c.toNat < 256 := c.isLt
  simp only [packPixel_eq, toNat_append_eq_add, toNat_extractLsb'_eq_div_mod]
  omega

theorem packPixel_g_toNat (p : Pixel) (c : Byte) :
    (packPixel p c).g.toNat = 4 * (p.g.toNat / 4) + c.toNat / 8 % 4 := by
  have hg : p.g.toNat < 256 := p.g.isLt
  simp only [packPixel_eq, toNat_append_eq_add, toNat_extractLsb'_eq_div_mod]
  omega

theorem packPixel_b_toNat (p : Pixel) (c : Byte) :
    (packPixel p c).b.toNat = 8 * (p.b.toNat / 8) + c.toNat % 8 := by
  have hb : p.b.toNat < 256 := p.b.isLt
  simp only [packPixel_eq, toNat_append_eq_add, toNat_extractLsb'_eq_div_mod]
  omega

theorem unpackPixel_toNat (p : Pixel) :
    (unpackPixel p).toNat = 32 * (p.r.toNat % 8) + 8 * (p.g.toNat % 4) + p.b.toNat % 8 := by
  simp only [unpackPixel_eq, toNat_append_eq_add, toNat_extractLsb'_eq_div_mod]
  omega

/-- A masked word is at most its mask. -/
theorem toNat_and_le_mask {w : Nat} (x mask : BitVec w) : (x &&& mask).toNat ≤ mask.toNat := by
  rw [BitVec.toNat_and]
  exact Nat.and_le_right

/-- A masked field shifted right is at most its mask shifted right. -/
theorem toNat_and_ushiftRight_le {w : Nat} (x mask : BitVec w) (k : Nat) :
    ((x &&& mask) >>> k).toNat ≤ (mask >>> k).toNat := by
  rw [BitVec.ushiftRight_and_distrib]
  exact toNat_and_le_mask _ _

/-- A masked field shifted left is at most its mask shifted left. -/
theorem toNat_and_shiftLeft_le {w : Nat} (x mask : BitVec w) (k : Nat) :
    ((x &&& mask) <<< k).toNat ≤ (mask <<< k).toNat := by
  rw [BitVec.shiftLeft_and_distrib]
  exact toNat_and_le_mask _ _

/-- Settles O12: each field as a number, and each bound as that of its mask, shifted with it. -/
theorem datapathIsUnsignedArithmetic : Obligations.DatapathIsUnsignedArithmetic := fun p c =>
  ⟨packPixel_r_toNat p c, packPixel_g_toNat p c, packPixel_b_toNat p c, unpackPixel_toNat p,
    toNat_and_ushiftRight_le c 0xE0 5, toNat_and_ushiftRight_le c 0x18 3, toNat_and_le_mask c 0x07,
    toNat_and_shiftLeft_le p.r 0x07 5, toNat_and_shiftLeft_le p.g 0x03 3, toNat_and_le_mask p.b 0x07⟩

/-! ### What injection keeps, and the round trip -/

/-- Injection keeps the bits above the slots (30 R68). -/
theorem packPixel_highBits (p : Pixel) (c : Byte) :
    (packPixel p c).r.extractLsb' 3 5 = p.r.extractLsb' 3 5
      ∧ (packPixel p c).g.extractLsb' 2 6 = p.g.extractLsb' 2 6
      ∧ (packPixel p c).b.extractLsb' 3 5 = p.b.extractLsb' 3 5 := by
  rw [packPixel_eq]
  exact ⟨BitVec.extractLsb'_append_eq_left, BitVec.extractLsb'_append_eq_left, BitVec.extractLsb'_append_eq_left⟩

/-- Settles O13: a channel and its injected value agree above the slot, so they differ by less than the slot holds. -/
theorem injectionIsSmallAndKeepsHighBits : Obligations.InjectionIsSmallAndKeepsHighBits := by
  intro p c
  have hc : c.toNat < 256 := c.isLt
  refine ⟨?_, ?_, ?_, packPixel_highBits p c⟩
  · rw [packPixel_r_toNat]; omega
  · rw [packPixel_g_toNat]; omega
  · rw [packPixel_b_toNat]; omega

/-- A byte is the concatenation of its three fields. -/
theorem carrierByte_eq_fields (c : Byte) : c.extractLsb' 5 3 ++ c.extractLsb' 3 2 ++ c.extractLsb' 0 3 = c := by
  rw [BitVec.extractLsb'_append_extractLsb'_eq_extractLsb' (start₂ := 5) (start₁ := 3) rfl]
  exact BitVec.extractLsb'_append_extractLsb' (w := 5) (len := 3)

/-- Extraction reads the fields that injection has written (30 R66). -/
theorem unpackPixel_packPixel (p : Pixel) (c : Byte) : unpackPixel (packPixel p c) = c := by
  rw [unpackPixel_eq, packPixel_eq]
  simp only [BitVec.extractLsb'_append_eq_right]
  exact carrierByte_eq_fields c

/-- Settles O11: the formulas are the model's definitions, the audit is about literals alone, and the confirming property is
the round trip. -/
theorem masksAndShiftsAgree : Obligations.MasksAndShiftsAgree := by
  have hdisjoint : 0xE0#8 &&& 0x18#8 = 0 ∧ 0xE0#8 &&& 0x07#8 = 0 ∧ 0x18#8 &&& 0x07#8 = 0 := by decide
  have hshifted : 0xE0#8 >>> 5 = 0x07#8 ∧ 0x18#8 >>> 3 = 0x03#8 ∧ 0x07#8 >>> 0 = 0x07#8 := by decide
  have hkeep : 0xF8#8 = 0xFF#8 - 0x07#8 ∧ 0xFC#8 = 0xFF#8 - 0x03#8 := by decide
  refine ⟨fun r g b c => ?_, fun r g b => ?_, hdisjoint, by decide, hshifted, hkeep, by decide, by decide, rfl,
    fun r g b c => unpackPixel_packPixel ⟨r, g, b⟩ c⟩
  · rw [BitVec.ushiftRight_zero]; rfl
  · rw [BitVec.shiftLeft_zero]; rfl

end Sys2Proof.Machine
end

section
/-!
PROOF. The compressor adapter (40 R85 to R93): what KP2 and KP4 say of every compressor, and the next state of CMP and DCMP,
read off what the machine's compressor answers.
-/

namespace Sys2Proof

/-! ### The named properties of a compressor -/

namespace Compressor

/-- KP1 (40 R88): KP2 with nothing after the stream. -/
@[simp] theorem decompress_compress (K : Compressor) (x : Bytes) : K.decompress (K.compress x) = some x := by
  simpa using K.self_terminating x []

/-- KP2 reads the shorter of two such streams, KP1 the longer, and the bytes read are the same (40 R93). -/
theorem eq_of_compress_prefix (K : Compressor) {x y : Bytes} (h : K.compress y <+: K.compress x) : x = y := by
  obtain ⟨t, ht⟩ := h
  have hy : K.decompress (K.compress x) = some y := ht ▸ K.self_terminating y t
  rw [decompress_compress] at hy
  exact Option.some.inj hy

/-- An empty stream would begin the stream of a longer input (40 R92). -/
theorem compress_ne_nil (K : Compressor) (x : Bytes) : K.compress x ≠ [] := by
  intro h
  have hprefix : K.compress x <+: K.compress (0x00 :: x) := h ▸ List.nil_prefix
  exact List.cons_ne_self 0x00 x (K.eq_of_compress_prefix hprefix)

/-- KP4 (40 R91), with "shorter" said as "not the whole stream". -/
theorem decompress_proper_prefix (K : Compressor) {x p : Bytes} (hp : p <+: K.compress x) (hne : p ≠ K.compress x) :
    K.decompress p = none :=
  K.truncation_detected x p hp (lt_of_le_of_ne hp.length_le (mt hp.eq_of_length hne))

/-- The empty input is any stream cut off before its first byte (40 R92). -/
@[simp] theorem decompress_nil (K : Compressor) : K.decompress [] = none :=
  K.decompress_proper_prefix (x := []) List.nil_prefix (K.compress_ne_nil []).symm

end Compressor

/-- Settles O20: that no stream begins another comes first, from KP2; injectivity is its case of equal streams. -/
theorem compressedStreamsArePrefixFree : Obligations.CompressedStreamsArePrefixFree := fun K =>
  ⟨K.compress_ne_nil, K.decompress_nil, fun _ _ h => K.eq_of_compress_prefix (h ▸ List.prefix_rfl),
    fun _ _ => K.eq_of_compress_prefix⟩

end Sys2Proof

namespace Sys2Proof.Machine

/-! ### The two operations -/

/-- CMP delivers the stream of `PLAIN` (40 R85). -/
theorem exec_cmp (s : State) : exec .cmp s = .next (deliver (dataResult (Config.params.K.compress s.opnd.plain)) s) :=
  exec_eq_effect .cmp s

/-- DCMP delivers what the decompressor answers (40 R86). -/
theorem exec_dcmp_of_some {s : State} {q : Bytes} (h : Config.params.K.decompress s.opnd.data = some q) :
    exec .dcmp s = .next (deliver (plainResult q) s) := by
  rw [exec_eq_effect, effect, dcmpEffect, h]

/-- DCMP faults on what the decompressor calls corrupt (40 R86). -/
theorem exec_dcmp_of_none {s : State} (h : Config.params.K.decompress s.opnd.data = none) :
    exec .dcmp s = .next (raiseFault .corruptStream s) := by
  rw [exec_eq_effect, effect, dcmpEffect, h]

/-- Settles O21: the delivered stream is the compressor's, and no stream is empty. -/
theorem cmpDeliversTheCompressedBytes : Obligations.CmpDeliversTheCompressedBytes := fun s =>
  ⟨exec_cmp s, Config.params.K.compress_ne_nil s.opnd.plain⟩

/-- Settles O22: each kind of `DATA` is one on which the named properties fix what the decompressor answers. -/
theorem dcmpStopsAtTheEndOfTheStream : Obligations.DcmpStopsAtTheEndOfTheStream := by
  intro s
  refine ⟨fun q => exec_dcmp_of_some, exec_dcmp_of_none, fun x t hdata => ?_, fun x hp hne => ?_, fun hdata => ?_⟩
  · exact exec_dcmp_of_some (hdata ▸ Config.params.K.self_terminating x t)
  · exact exec_dcmp_of_none (Config.params.K.decompress_proper_prefix hp hne)
  · exact exec_dcmp_of_none (hdata ▸ Config.params.K.decompress_nil)

end Sys2Proof.Machine
end

section
/-!
PROOF. Injecting twice, and PACK (41 R100 to R104): the laws of the carrier format read off its fields, and the next
state of PACK as the fields of its operand word.
-/

namespace Sys2Proof.Machine

/-- Settles O14: extraction reads the fields that injection has written. -/
theorem extractionInvertsInjection : Obligations.ExtractionInvertsInjection := unpackPixel_packPixel

/-- A second injection overwrites the slots and finds the bits above them as they were (41 R103). -/
@[simp] theorem packPixel_packPixel (p : Pixel) (c₁ c₂ : Byte) : packPixel (packPixel p c₁) c₂ = packPixel p c₂ := by
  obtain ⟨hr, hg, hb⟩ := packPixel_highBits p c₁
  rw [packPixel_eq (packPixel p c₁), hr, hg, hb, ← packPixel_eq]

/-- Settles O15: the second injection overwrites the first, also where it is of the same byte. -/
theorem lastInjectionWins : Obligations.LastInjectionWins := fun p c₁ c₂ =>
  ⟨packPixel_packPixel p c₁ c₂, packPixel_packPixel p c₁ c₁⟩

/-- The three fields of an extracted byte are the slots it was read from. -/
theorem unpackPixel_fields (p : Pixel) :
    (unpackPixel p).extractLsb' 5 3 = p.r.extractLsb' 0 3 ∧ (unpackPixel p).extractLsb' 3 2 = p.g.extractLsb' 0 2
      ∧ (unpackPixel p).extractLsb' 0 3 = p.b.extractLsb' 0 3 := by
  rw [unpackPixel_eq]
  refine ⟨?_, ?_, BitVec.extractLsb'_append_eq_right⟩
  · rw [extractLsb'_append_add _ _ 2 3]; exact BitVec.extractLsb'_append_eq_left
  · rw [extractLsb'_append_add _ _ 0 2]; exact BitVec.extractLsb'_append_eq_right

/-- Injecting the byte a pixel holds writes each slot with its own value (41 R104). -/
@[simp] theorem packPixel_unpackPixel (p : Pixel) : packPixel p (unpackPixel p) = p := by
  obtain ⟨hr, hg, hb⟩ := unpackPixel_fields p
  rw [packPixel_eq, hr, hg, hb]
  congr 1 <;> exact BitVec.extractLsb'_append_extractLsb'

/-- A byte that leaves the pixel unchanged is the one extracted from it. -/
theorem packPixel_eq_self_iff (p : Pixel) (c : Byte) : packPixel p c = p ↔ c = unpackPixel p := by
  constructor
  · intro h
    rw [← unpackPixel_packPixel p c, h]
  · rintro rfl
    exact packPixel_unpackPixel p

/-- Settles O16: the held byte is the one witness, and extraction tells it from every other. -/
theorem injectingTheHeldByteChangesNothing : Obligations.InjectingTheHeldByteChangesNothing := fun p =>
  ⟨packPixel_unpackPixel p, packPixel_eq_self_iff p, unpackPixel p, packPixel_unpackPixel p,
    fun c => (packPixel_eq_self_iff p c).1⟩

/-! ### PACK -/

/-- A field of a field is a field of the word. -/
theorem extractLsb'_extractLsb'_eq {w : Nat} (x : BitVec w) {start len start' len' : Nat} (h : start' + len' ≤ len) :
    (x.extractLsb' start len).extractLsb' start' len' = x.extractLsb' (start + start') len' := by
  ext i hi
  simp only [BitVec.getElem_extractLsb', BitVec.getLsbD_extractLsb', Nat.add_assoc]
  simp [show start' + i < len by omega]

/-- The pixel that PACK makes of its operand word (30 R74). -/
theorem packPixel_operands (imm : BitVec 32) :
    packPixel (packPixelOperand imm) (packByteOperand imm)
      = { r := imm.extractLsb' 27 5 ++ imm.extractLsb' 5 3
          g := imm.extractLsb' 18 6 ++ imm.extractLsb' 3 2
          b := imm.extractLsb' 11 5 ++ imm.extractLsb' 0 3 } := by
  rw [packPixel_eq]
  simp only [packPixelOperand, packByteOperand, extractLsb'_extractLsb'_eq, Nat.reduceAdd, Nat.reduceLeDiff]

/-- The next state of PACK: pixel and byte in the registers, the word in `RES` (41 R100). -/
theorem packEffect_eq (p : Params) (s : State) :
    packEffect p s
      = deliver
          (resResult (.pixel (pixelWord (packPixel (packPixelOperand s.opnd.imm) (packByteOperand s.opnd.imm)))))
          (setDatapath
            (loadByte (packByteOperand s.opnd.imm)
              (loadPixel (packPixel (packPixelOperand s.opnd.imm) (packByteOperand s.opnd.imm)) s.dp)) s) := rfl

/-- Settles O18: the registers were loaded from the operand word, so each field they end with is one of its fields. -/
theorem packInjectsTheByteIntoThePixel : Obligations.PackInjectsTheByteIntoThePixel := by
  intro s
  rw [exec_eq_effect, effect, packEffect_eq, packPixel_operands]
  rfl

end Sys2Proof.Machine
end

section
/-!
PROOF. EMBED (41 R105 to R111): the two checks, `OUT` as the injected bytes followed by the untouched pixels, and the
guarantees of R109.
-/

namespace Sys2Proof.Machine

/-! ### One element of `OUT` -/

theorem embedElement_of_byte {fmt : Fmt} {data : Bytes} {i : Nat} {c : Byte} (e : SrcElem) (hc : data[i]? = some c) :
    embedElement fmt data i e = packPixel (rgb fmt e) c := by
  rw [embedElement, hc]

theorem embedElement_of_length_le {fmt : Fmt} {data : Bytes} {i : Nat} (e : SrcElem) (hi : data.length ≤ i) :
    embedElement fmt data i e = rgb fmt e := by
  rw [embedElement, List.getElem?_eq_none hi]

/-- An element is its source pixel, with a byte injected or without. -/
theorem embedElement_cases (fmt : Fmt) (data : Bytes) (i : Nat) (e : SrcElem) :
    (∃ c, data[i]? = some c ∧ embedElement fmt data i e = packPixel (rgb fmt e) c)
      ∨ (data[i]? = none ∧ embedElement fmt data i e = rgb fmt e) := by
  cases hc : data[i]? with
  | some c => exact .inl ⟨c, rfl, embedElement_of_byte e hc⟩
  | none => exact .inr ⟨rfl, embedElement_of_length_le e (List.getElem?_eq_none_iff.1 hc)⟩

/-- The high bits of a source pixel are kept (41 R109 (d)). -/
theorem embedElement_highBits (fmt : Fmt) (data : Bytes) (i : Nat) (e : SrcElem) :
    (embedElement fmt data i e).r.extractLsb' 3 5 = (rgb fmt e).r.extractLsb' 3 5
      ∧ (embedElement fmt data i e).g.extractLsb' 2 6 = (rgb fmt e).g.extractLsb' 2 6
      ∧ (embedElement fmt data i e).b.extractLsb' 3 5 = (rgb fmt e).b.extractLsb' 3 5 := by
  rcases embedElement_cases fmt data i e with ⟨c, _, heq⟩ | ⟨_, heq⟩
  · rw [heq]; exact packPixel_highBits _ c
  · rw [heq]; exact ⟨rfl, rfl, rfl⟩

/-- Embedding the same bytes into an element of `OUT` changes nothing (41 R109 (f)). -/
theorem embedElement_embedElement (fmt : Fmt) (data : Bytes) (i : Nat) (e : SrcElem) :
    embedElement .rgb data i (.rgb (embedElement fmt data i e)) = embedElement fmt data i e := by
  rcases embedElement_cases fmt data i e with ⟨c, hc, heq⟩ | ⟨hc, heq⟩
  · rw [embedElement_of_byte _ hc, heq]; exact packPixel_packPixel _ c c
  · rw [embedElement_of_length_le _ (List.getElem?_eq_none_iff.1 hc)]; rfl

/-! ### The whole of `OUT` -/

/-- Without bytes `OUT` is the source (41 R110). -/
@[simp] theorem mapIdx_embedElement_nil (fmt : Fmt) (src : List SrcElem) :
    src.mapIdx (embedElement fmt []) = src.map (rgb fmt) := by
  ext1 i
  rw [List.getElem?_mapIdx, List.getElem?_map]
  rfl

/-- `OUT` is the source pixels with one byte injected each, as far as the bytes go, and then the source pixels as they
are (41 R108). -/
theorem mapIdx_embedElement (fmt : Fmt) (data : Bytes) (src : List SrcElem) :
    src.mapIdx (embedElement fmt data)
      = List.zipWith (fun e c => packPixel (rgb fmt e) c) src data ++ (src.map (rgb fmt)).drop data.length := by
  induction src generalizing data with
  | nil => simp
  | cons e es ih =>
    cases data with
    | nil => exact mapIdx_embedElement_nil fmt (e :: es)
    | cons c cs =>
      rw [List.mapIdx_cons]
      exact congrArg (packPixel (rgb fmt e) c :: ·) (ih cs)

/-- Below the number of bytes `OUT` is computed by PACK (41 R109 (b)). -/
theorem mapIdx_embedElement_of_byte {fmt : Fmt} {data : Bytes} {src : List SrcElem} {i : Nat} {c : Byte} {e : SrcElem}
    (hc : data[i]? = some c) (he : src[i]? = some e) :
    (src.mapIdx (embedElement fmt data))[i]? = some (packPixel (rgb fmt e) c) := by
  rw [List.getElem?_mapIdx, he, Option.map_some, embedElement_of_byte e hc]

/-- From the number of bytes on `OUT` is the source (41 R108). -/
theorem mapIdx_embedElement_of_length_le {fmt : Fmt} {data : Bytes} {src : List SrcElem} {i : Nat} {e : SrcElem}
    (hi : data.length ≤ i) (he : src[i]? = some e) :
    (src.mapIdx (embedElement fmt data))[i]? = some (rgb fmt e) := by
  rw [List.getElem?_mapIdx, he, Option.map_some, embedElement_of_length_le e hi]

/-- The pixels beyond the bytes are those of the source (41 R109 (a)). -/
theorem drop_mapIdx_embedElement {fmt : Fmt} {data : Bytes} {src : List SrcElem} (hfits : data.length ≤ src.length) :
    (src.mapIdx (embedElement fmt data)).drop data.length = (src.map (rgb fmt)).drop data.length := by
  rw [mapIdx_embedElement]
  exact List.drop_left' (by rw [List.length_zipWith, Nat.min_eq_right hfits])

/-- Two lists that agree from index `n` on differ in at most `n` places. -/
theorem length_filter_zip_ne_le {α : Type} [DecidableEq α] {xs ys : List α} {n : Nat} (h : xs.drop n = ys.drop n) :
    ((List.zip xs ys).filter fun q => decide (q.1 ≠ q.2)).length ≤ n := by
  have hrest : (List.zip xs ys).drop n = (ys.drop n).map fun y => (y, y) := by
    rw [List.zip_eq_zipWith, List.drop_zipWith, h, List.zipWith_self]
  have hsame : ((List.zip xs ys).drop n).filter (fun q => decide (q.1 ≠ q.2)) = [] := by
    rw [hrest, List.filter_map]
    simp
  calc ((List.zip xs ys).filter fun q => decide (q.1 ≠ q.2)).length
      = (((List.zip xs ys).take n).filter fun q => decide (q.1 ≠ q.2)).length := by
        conv_lhs => rw [← List.take_append_drop n (List.zip xs ys), List.filter_append, hsame, List.append_nil]
    _ ≤ ((List.zip xs ys).take n).length := List.length_filter_le ..
    _ ≤ n := List.length_take_le ..

/-- Embedding the same bytes into `OUT` gives `OUT` (41 R109 (f)). -/
theorem mapIdx_embedElement_asSource (fmt : Fmt) (data : Bytes) (src : List SrcElem) :
    (asSource (src.mapIdx (embedElement fmt data))).mapIdx (embedElement .rgb data)
      = src.mapIdx (embedElement fmt data) := by
  ext1 i
  simp only [asSource, List.getElem?_mapIdx, List.getElem?_map, Option.map_map]
  exact congrArg (Option.map · _) (funext (embedElement_embedElement fmt data i))

/-- The slots of `OUT` hold the bytes, and then what the untouched pixels hold (42 R133). -/
theorem slotBytes_mapIdx_embedElement {fmt : Fmt} {data : Bytes} {src : List SrcElem}
    (hfits : data.length ≤ src.length) :
    slotBytes .rgb (asSource (src.mapIdx (embedElement fmt data)))
      = data ++ (slotBytes fmt src).drop data.length := by
  induction src generalizing data with
  | nil => rw [List.length_eq_zero_iff.1 (Nat.le_zero.1 hfits)]; rfl
  | cons e es ih =>
    cases data with
    | nil =>
      rw [mapIdx_embedElement_nil, slotBytes, asSource, List.map_map, List.map_map]
      rfl
    | cons c cs =>
      rw [List.mapIdx_cons]
      exact congr (congrArg List.cons (unpackPixel_packPixel (rgb fmt e) c)) (ih (Nat.le_of_succ_le_succ hfits))

/-! ### The two checks -/

/-- Everything EMBED and ENCODE can do, their bytes being `data`: the descriptor fault, the capacity fault, or the
traversal (41 R105, R115). -/
theorem withDescriptor_embedStage_cases (p : Params) (fmt : Fmt) (data : Bytes) (s : State) :
    ((s.opnd.src.length ≠ s.w * s.h ∨ fitsIndex p (s.w * s.h) = false)
        ∧ withDescriptor p (embedStage fmt data) s = raiseFault .badDescriptor s)
      ∨ (s.opnd.src.length = s.w * s.h ∧ fitsIndex p (s.w * s.h) = true ∧ s.w * s.h < data.length
        ∧ withDescriptor p (embedStage fmt data) s
          = raiseFault .capacityExceeded (setLen data.length (setN (s.w * s.h) s)))
      ∨ (s.opnd.src.length = s.w * s.h ∧ fitsIndex p (s.w * s.h) = true ∧ data.length ≤ s.w * s.h
        ∧ withDescriptor p (embedStage fmt data) s
          = deliver (outResult { w := s.w, h := s.h, px := s.opnd.src.mapIdx (embedElement fmt data) })
              (setDatapath (traverse (embedPixel fmt data) s.opnd.src (startIndex s.dp)).1
                (setLen data.length (setN (s.w * s.h) s)))) := by
  rcases withDescriptor_cases p (embedStage fmt data) s with ⟨hshape, hindex, heq⟩ | hbad
  · rw [heq]
    rcases embedStage_cases fmt data s with ⟨hfits, hrun⟩ | ⟨hfull, hrun⟩
    · exact .inr (.inr ⟨hshape, hindex, hfits, hrun⟩)
    · exact .inr (.inl ⟨hshape, hindex, hfull, hrun⟩)
  · exact .inl hbad

/-- An EMBED or ENCODE that ends in `DONE` has its number of bytes in `LEN` (10 R24). -/
theorem withDescriptor_embedStage_len (p : Params) (fmt : Fmt) (data : Bytes) (s : State)
    (hdone : (withDescriptor p (embedStage fmt data) s).status = 0x01) :
    (withDescriptor p (embedStage fmt data) s).len = data.length := by
  rcases withDescriptor_embedStage_cases p fmt data s with ⟨_, heq⟩ | ⟨_, _, _, heq⟩ | ⟨_, _, _, heq⟩
  · rw [heq] at hdone; cases hdone
  · rw [heq]; rfl
  · rw [heq]; rfl

section
variable {fmt : Fmt} {data : Bytes} {s : State} (hshape : s.opnd.src.length = s.w * s.h)
include hshape

/-- Bytes that fit are embedded (41 R108). -/
theorem embedding_of_fits (hfits : data.length ≤ s.w * s.h) :
    withDescriptor Config.params (embedStage fmt data) s
      = deliver (outResult { w := s.w, h := s.h, px := s.opnd.src.mapIdx (embedElement fmt data) })
          (setDatapath (traverse (embedPixel fmt data) s.opnd.src (startIndex s.dp)).1
            (setLen data.length (setN (s.w * s.h) s))) :=
  (withDescriptor_good _ _ _ hshape rfl).trans
    ((embedStage_cases fmt data s).resolve_right fun h => Nat.not_lt.2 hfits h.1).2

/-- Bytes that do not fit end in the capacity fault, with `N` and `LEN` set (41 R105, R112). -/
theorem embedding_of_full (hfull : s.w * s.h < data.length) :
    withDescriptor Config.params (embedStage fmt data) s
      = raiseFault .capacityExceeded (setLen data.length (setN (s.w * s.h) s)) :=
  (withDescriptor_good _ _ _ hshape rfl).trans
    ((embedStage_cases fmt data s).resolve_left fun h => Nat.not_le.2 hfull h.1).2

/-- The capacity check is strict (41 R106). -/
theorem embedding_status_done_iff :
    (withDescriptor Config.params (embedStage fmt data) s).status = 0x01 ↔ data.length ≤ s.w * s.h := by
  rcases Nat.lt_or_ge (s.w * s.h) data.length with hfull | hfits
  · rw [embedding_of_full hshape hfull]
    exact iff_of_false (by simp [FaultCode.code]) (Nat.not_le.2 hfull)
  · rw [embedding_of_fits hshape hfits]
    exact iff_of_true rfl hfits

end

/-! ### EMBED -/

/-- EMBED embeds `DATA` (41 R105). -/
theorem exec_embed (fmt : Fmt) (s : State) :
    exec (.embed fmt) s = .next (withDescriptor Config.params (embedStage fmt s.opnd.data) s) :=
  exec_eq_effect (.embed fmt) s

/-- Settles O23: each pixel of the traversal's buffer has its byte injected or has none. -/
theorem embedWritesTheBytesIntoTheGrid : Obligations.EmbedWritesTheBytesIntoTheGrid := by
  intro fmt s hshape hfits
  rw [exec_embed, embedding_of_fits hshape hfits]
  exact ⟨_, _, rfl, rfl, rfl, rfl, rfl, rfl, List.length_mapIdx.trans hshape,
    fun _ _ _ => mapIdx_embedElement_of_byte, fun _ _ => mapIdx_embedElement_of_length_le⟩

/-- Settles O24: `DATA` as long as the grid has pixels leaves no pixel unpaired; longer `DATA` is the capacity fault. -/
theorem capacityCheckIsStrict : Obligations.CapacityCheckIsStrict := by
  intro fmt s hshape
  rw [exec_embed]
  refine ⟨?_, fun hfull => ?_, fun hlen => ?_, fun hzero => ?_⟩
  · rw [← embedding_status_done_iff hshape (fmt := fmt)]
    exact ⟨fun ⟨t, ht, hdone⟩ => Host.Outcome.next.inj ht ▸ hdone, fun hdone => ⟨_, rfl, hdone⟩⟩
  · exact congrArg _ (embedding_of_full hshape hfull)
  · rw [embedding_of_fits hshape hlen.le]
    refine ⟨_, _, rfl, rfl, ?_⟩
    rw [mapIdx_embedElement, List.drop_eq_nil_of_le (by rw [List.length_map, hshape, hlen]), List.append_nil]
  · have hsrc : s.opnd.src = [] := List.length_eq_zero_iff.1 (hshape.trans hzero)
    constructor
    · rintro ⟨t, ht, hdone, -⟩
      obtain rfl := Host.Outcome.next.inj ht
      exact List.length_eq_zero_iff.1 (Nat.le_zero.1 (hzero ▸ (embedding_status_done_iff hshape).1 hdone))
    · intro hdata
      rw [embedding_of_fits hshape (hdata ▸ Nat.zero_le _), hsrc]
      exact ⟨_, rfl, rfl, rfl⟩

/-- A delivered grid holds `W * H` pixels (20 R56). -/
theorem length_of_rslt_out {p : Params} {i : Instr} {s : State} {g : Grid} (hout : (effect p i s).rslt.out = some g) :
    g.px.length = g.w * g.h := by
  have hinv := effect_inv p i s
  simp only [State.Inv, Results.wf, hout, Option.all_some, Grid.wf, Bool.and_eq_true, decide_eq_true_eq] at hinv
  exact hinv.2

/-- EXTRACT under a good descriptor delivers the bytes in the slots (42 R130, R131). -/
theorem exec_extract_of_shape (fmt : Fmt) {s : State} (hshape : s.opnd.src.length = s.w * s.h) :
    exec (.extract fmt) s
      = .next (deliver (rawResult (slotBytes fmt s.opnd.src))
          (setDatapath (traverse (extractPixel fmt) s.opnd.src (startIndex s.dp)).1 (setN (s.w * s.h) s))) := by
  rw [exec_eq_effect, effect, extractEffect, withDescriptor_good _ _ _ hshape rfl, extractDeliver_eq]

/-- Settles O26: (a) to (d) from what one pixel of `OUT` is, (e) from its slots, (f) from injecting twice. -/
theorem embedGuarantees : Obligations.EmbedGuarantees := by
  intro fmt s t g ht hout
  obtain rfl := (exec_next_iff _ s t).1 ht
  obtain ⟨hshape, hfits, hpx, -⟩ := withDescriptor_embedStage_of_out Config.params fmt s.opnd.data s g hout
  have hdata : s.opnd.data.length ≤ s.opnd.src.length := hshape ▸ hfits
  have hrest := drop_mapIdx_embedElement (fmt := fmt) hdata
  have hsource : (asSource g.px).length = g.w * g.h := (List.length_map _).trans (length_of_rslt_out hout)
  rw [← hpx] at hrest
  refine ⟨hrest, fun i c e hc he => ?_, length_filter_zip_ne_le hrest, fun i p e hp he => ?_, fun u hu hwh => ?_,
    fun u hu hbytes hw hh => ?_⟩
  · rw [hpx]
    exact mapIdx_embedElement_of_byte hc he
  · rw [hpx, List.getElem?_mapIdx, he] at hp
    obtain rfl := Option.some.inj hp
    exact embedElement_highBits fmt s.opnd.data i e
  · refine ⟨_, _, exec_extract_of_shape .rgb (by rw [hu, hsource, hwh]), rfl, ?_⟩
    rw [hu, hpx, slotBytes_mapIdx_embedElement hdata, List.take_left]
  · have hshape' : u.opnd.src.length = u.w * u.h := by rw [hu, hsource, hw, hh]
    have hfits' : u.opnd.data.length ≤ u.w * u.h := by
      rw [hbytes, hw, hh, ← length_of_rslt_out hout, hpx, List.length_mapIdx]
      exact hdata
    rw [exec_embed, embedding_of_fits hshape' hfits', hu, hbytes, hpx, mapIdx_embedElement_asSource, ← hpx, hw, hh]
    exact ⟨_, rfl, rfl⟩

end Sys2Proof.Machine
end

section
/-!
PROOF. ENCODE (41 R110, R111, R115, R116, R118): it is EMBED of the compressed bytes of the text, of which there is at
least one.
-/

namespace Sys2Proof.Machine

/-- ENCODE embeds the stream of the encoded text (41 R115). -/
theorem exec_encode (fmt : Fmt) (s : State) :
    exec (.encode fmt) s
      = .next (withDescriptor Config.params (embedStage fmt (Config.params.K.compress (utf8Encode s.opnd.txt))) s) :=
  exec_eq_effect (.encode fmt) s

/-- Settles O25: no byte leaves every pixel as it is; the bytes of ENCODE are a stream, which is never empty. -/
theorem emptyDataLeavesTheImage : Obligations.EmptyDataLeavesTheImage := by
  refine ⟨fun fmt s hshape hdata => ?_, fun fmt s t ht hdone => ?_⟩
  · rw [exec_embed, hdata, embedding_of_fits hshape (Nat.zero_le _), mapIdx_embedElement_nil]
    exact ⟨_, rfl, rfl, rfl⟩
  · rw [exec_encode] at ht
    obtain rfl := Host.Outcome.next.inj ht
    rw [withDescriptor_embedStage_len _ _ _ _ hdone]
    exact List.length_pos_iff.2 (Config.params.K.compress_ne_nil _)

/-- Settles O27: as for EMBED, the bytes being the stream. -/
theorem encodeCarriesTheTextThatFits : Obligations.EncodeCarriesTheTextThatFits := by
  intro fmt s hshape
  rw [exec_encode]
  refine ⟨fun hfits => ?_, fun hfull => congrArg _ (embedding_of_full hshape hfull)⟩
  rw [embedding_of_fits hshape hfits]
  exact ⟨_, _, rfl, rfl, rfl, rfl, rfl, rfl, List.length_mapIdx.trans hshape,
    fun _ _ _ => mapIdx_embedElement_of_byte, fun _ _ => mapIdx_embedElement_of_length_le⟩

/-- The operand `DATA` is not read by the EMBED stage on other bytes. -/
theorem observed_embedding_withData (fmt : Fmt) (data b : Bytes) (s : State) :
    observed (withDescriptor Config.params (embedStage fmt data) (withData b s))
      = observed (withDescriptor Config.params (embedStage fmt data) s) := by
  rw [observed_withDescriptor, observed_withDescriptor, observed_embedStage, observed_embedStage]
  rfl

/-- Settles O28: both run the EMBED stage on the same bytes, of whose outcome the intermediate buffers are no part. -/
theorem encodeEqualsItsStages : Obligations.EncodeEqualsItsStages := by
  intro fmt s s₁ s₂ s₃ t plain data h₁ hplain h₂ hdata h₃ ht
  obtain rfl := (exec_next_iff _ _ _).1 h₁
  obtain rfl := (exec_next_iff _ _ _).1 h₂
  obtain rfl : utf8Encode s.opnd.txt = plain := Option.some.inj hplain
  obtain rfl : Config.params.K.compress (utf8Encode s.opnd.txt) = data := Option.some.inj hdata
  rw [exec_embed] at h₃
  rw [exec_encode] at ht
  obtain rfl := Host.Outcome.next.inj h₃
  obtain rfl := Host.Outcome.next.inj ht
  refine ⟨(observed_embedding_withData fmt _ _ s).symm, ?_⟩
  rcases withDescriptor_embedStage_cases Config.params fmt (Config.params.K.compress (utf8Encode s.opnd.txt)) s with
    ⟨_, heq⟩ | ⟨hshape, _, _, heq⟩ | ⟨hshape, _, _, heq⟩
  · rw [heq]; exact ⟨rfl, rfl, fun _ => rfl⟩
  · rw [heq]; exact ⟨rfl, rfl, absurd hshape⟩
  · rw [heq]; exact ⟨rfl, rfl, absurd hshape⟩

/-- Settles O39: a stream has a byte too many for no pixels, and no pixels spell no stream. -/
theorem gridWithoutPixelsHoldsNoText : Obligations.GridWithoutPixelsHoldsNoText := by
  intro fmt s hsrc hzero
  have hshape : s.opnd.src.length = s.w * s.h := by rw [hsrc, hzero]; rfl
  constructor
  · have hfull : s.w * s.h < (Config.params.K.compress (utf8Encode s.opnd.txt)).length := by
      rw [hzero]
      exact List.length_pos_iff.2 (Config.params.K.compress_ne_nil _)
    rw [exec_encode, embedding_of_full hshape hfull]
    exact ⟨_, rfl, rfl⟩
  · have hslots : Config.params.K.decompress (slotBytes fmt s.opnd.src) = none := by
      rw [hsrc]
      exact Config.params.K.decompress_nil
    have hobserved : observed (effect Config.params (.decode fmt) s) = (0x02, Results.absent) := by
      rw [effect, decodeEffect, withDescriptor_good _ _ _ hshape rfl, observed_decodeStages, hslots]
      rfl
    exact ⟨_, exec_eq_effect _ s, congrArg Prod.fst hobserved, congrArg Prod.snd hobserved⟩

end Sys2Proof.Machine
end

section
/-!
PROOF. The per-pixel realisation of EMBED (41 R112): its run ends as the whole operation does, and what every state
between start and end holds.
-/

namespace Sys2Proof.Machine

/-! ### The checks -/

/-- A pixel count fits exactly where no index width is too small for it (60 R172). -/
theorem fitsIndex_eq_true_iff (p : Params) (n : Nat) :
    fitsIndex p n = true ↔ ∀ k, p.indexWidth = some k → n < 2 ^ k := by
  unfold fitsIndex
  cases p.indexWidth <;> simp

/-- A pixel count does not fit exactly where the index width is too small for it (60 R172). -/
theorem fitsIndex_eq_false_iff (p : Params) (n : Nat) :
    fitsIndex p n = false ↔ ∃ k, p.indexWidth = some k ∧ 2 ^ k ≤ n := by
  unfold fitsIndex
  cases p.indexWidth <;> simp

/-! ### The whole run -/

/-- In each of the three ways the run of start, pixel steps and end gives the state of the whole operation. -/
theorem embedSeqRun_eq_effect (p : Params) (fmt : Fmt) (s : State) :
    embedSeqRun p fmt s = some (effect p (.embed fmt) s) := by
  change seqRun _ _ _ = some (withDescriptor p (embedStage fmt s.opnd.data) s)
  rcases withDescriptor_embedStage_cases p fmt s.opnd.data s with
    ⟨hbad, heq⟩ | ⟨hshape, hindex, hfull, heq⟩ | ⟨hshape, hindex, hfits, heq⟩
  · rw [heq, embedSeqStart_bad p _ s hbad]; rfl
  · rw [heq, embedSeqStart_full p _ s hshape hindex hfull]; rfl
  · rw [heq, embedSeqStart_running p _ s hshape hindex hfits,
      seqRun_open _ (embedPixel_i fmt s.opnd.data) _ _ hshape]
    simp only [setLen_opnd, setN_opnd, setLen_dp, setN_dp, traverse_embed]
    rfl

/-- Settles O58: the run agrees with `effect` at any parameters, and `exec` is `effect` at the machine's. -/
theorem embedSequencerIsTheOperation : Obligations.EmbedSequencerIsTheOperation := fun fmt s =>
  ⟨fun p => embedSeqRun_eq_effect p fmt s, _, exec_eq_effect _ s, embedSeqRun_eq_effect Config.params fmt s⟩

/-! ### Every state between start and end -/

section sequencer
variable {α : Type} (f : Datapath → SrcElem → Datapath × α) (result : State → List α → Results)

/-- With a source element for every pixel, the pixel step is enabled exactly where `I < N`. -/
theorem seqStep_isSome_iff (q : SeqState α) (hn : q.st.opnd.src.length = q.st.n) :
    (seqStep f q).isSome = true ↔ q.st.dp.i < q.st.n := by
  unfold seqStep
  by_cases hlt : q.st.dp.i < q.st.n
  · rw [if_pos hlt, List.getElem?_eq_getElem (hn ▸ hlt)]
    simp [hlt]
  · simp [hlt]

/-- An end step that succeeds at `I = N` is enabled exactly there. -/
theorem seqEnd_isSome_iff (q : SeqState α) {t : State} (hend : q.st.dp.i = q.st.n → seqEnd result q = some t) :
    (seqEnd result q).isSome = true ↔ q.st.dp.i = q.st.n := by
  by_cases hi : q.st.dp.i = q.st.n
  · simp [hend hi, hi]
  · rw [seqEnd, if_neg hi]
    simp [hi]

/-- A run that is not ended at its start is its pixel steps and then its end step. -/
theorem seqRun_running (q : SeqState α) :
    seqRun f result (.running q) = (seqSteps f q.st.n q).bind (seqEnd result) := by
  rw [seqRun]
  cases seqSteps f q.st.n q <;> rfl

/-- The traversal of the first elements writes the first elements of the buffer. -/
theorem traverse_take (src : List SrcElem) (d : Datapath) {k : Nat} (hk : k ≤ src.length) :
    (traverse f (src.take k) d).2 = (traverse f src d).2.take k := by
  conv_rhs => rw [← List.take_append_drop k src, traverse_append]
  exact (List.take_left' (by rw [traverse_length, List.length_take_of_le hk])).symm

/-- What a run of `N` pixel steps and an end that answers `t` holds after `k` of them (41 R112, 42 R135): `I = k`, the
first `k` elements with their final value, and the one step that is enabled. -/
theorem seqSteps_open_spec (hf : ∀ d e, (f d e).1.i = d.i) (s : State) (hn : s.opnd.src.length = s.n) {t : State}
    (hrun : seqRun f result (.running (seqOpen s)) = some t) {k : Nat} (hk : k ≤ s.n) :
    ∃ (q : SeqState α) (d : Datapath), seqSteps f k (seqOpen s) = some q ∧ q.st = setDatapath d s ∧ d.i = k
      ∧ q.buf = ((traverse f s.opnd.src (startIndex s.dp)).2.take k).map some ++ List.replicate (s.n - k) none
      ∧ ((seqStep f q).isSome = true ↔ k < s.n) ∧ ((seqEnd result q).isSome = true ↔ k = s.n)
      ∧ (k = s.n → seqEnd result q = some t) := by
  have hks : k ≤ s.opnd.src.length := hn ▸ hk
  have hsteps := seqSteps_open f hf s hn k hk
  rw [traverse_take f _ _ hks] at hsteps
  have hi : (traverse f (s.opnd.src.take k) (startIndex s.dp)).1.i = k := by
    rw [traverse_index f hf, List.length_take_of_le hks, startIndex_i, Nat.zero_add]
  generalize (traverse f (s.opnd.src.take k) (startIndex s.dp)).1 = d at hsteps hi
  subst hi
  rw [seqRun_running, seqOpen_st, setDatapath_n] at hrun
  have hend (hlast : d.i = s.n) := by
    rw [← hlast, hsteps, Option.bind_some] at hrun
    exact hrun
  exact ⟨_, d, hsteps, rfl, rfl, rfl, seqStep_isSome_iff f _ hn, seqEnd_isSome_iff result _ hend, hend⟩

end sequencer

/-- Settles O30: the start is one of the three of the checks, and after it the run is that of the whole operation. -/
theorem embedSequencerAgrees : Obligations.EmbedSequencerAgrees := by
  intro p fmt s
  refine ⟨fun hbad => ?_, fun hshape hwidth => ?_⟩
  · rw [← fitsIndex_eq_false_iff] at hbad
    exact embedSeqStart_bad p _ s hbad
  · have hindex : fitsIndex p (s.w * s.h) = true := (fitsIndex_eq_true_iff p _).2 hwidth
    refine ⟨embedSeqStart_full p _ s hshape hindex, fun hfits => ?_⟩
    have hstart := embedSeqStart_running p s.opnd.data s hshape hindex hfits
    have hrun := embedSeqRun_eq_effect p fmt s
    rw [embedSeqRun, hstart] at hrun
    refine ⟨_, hstart, fun k hk => ?_⟩
    rw [← traverse_embed fmt _ _ s.dp]
    exact seqSteps_open_spec _ _ (embedPixel_i fmt s.opnd.data) _ hshape hrun hk

end Sys2Proof.Machine
end

section
/-!
PROOF. The UTF-8 round trip on one scalar value and on a text (43 R156, R159): what the decoder does on each form, and
that the bytes the encoder writes are of the form its value has.
-/

namespace Sys2Proof.Machine

/-! ### The fields of the bytes -/

theorem byteOf_toNat {v : Nat} (h : v < 0x100) : (byteOf v).toNat = v := by
  rw [byteOf, BitVec.toNat_ofNat]
  exact Nat.mod_eq_of_lt h

/-- A byte `10xxxxxx` is a continuation byte (43 R156). -/
theorem isContinuation_byteOf {x : Nat} (h : x < 0x40) : isContinuation (byteOf (0x80 + x)) = true := by
  rw [isContinuation, byteOf_toNat (by omega)]
  exact decide_eq_true (by omega)

/-- Its payload is the six bits `x`. -/
theorem continuationBits_byteOf {x : Nat} (h : x < 0x40) : continuationBits (byteOf (0x80 + x)) = x := by
  rw [continuationBits, byteOf_toNat (by omega)]
  omega

/-- A scalar value passes the test for scalar values in every form it is long enough for. -/
theorem scalarFrom_toNat {least : Nat} {ch : Char} (h : least ≤ ch.toNat) : scalarFrom least ch.toNat = some ch := by
  rw [scalarFrom, if_pos ⟨h, ch.valid⟩, Char.ofNat_toNat]

/-- A value read in a form it is long enough for is put in front of the decoded rest. -/
theorem consScalar_scalarFrom {least v : Nat} {ch : Char} (hv : v = ch.toNat) (hleast : least ≤ v)
    (rest : Option Text) : consScalar (scalarFrom least v) rest = rest.map (ch :: ·) := by
  subst hv
  rw [scalarFrom_toNat hleast]
  cases rest <;> rfl

/-! ### The four forms -/

theorem utf8Decode_oneByte {b₀ : Byte} (r : Bytes) (h : b₀.toNat < 0x80) :
    utf8Decode (b₀ :: r) = consScalar (scalarFrom 0 b₀.toNat) (utf8Decode r) := by
  rw [utf8Decode.eq_def]
  simp only [h, if_true]

theorem utf8Decode_twoBytes {b₀ b₁ : Byte} (r : Bytes) (h : b₀.toNat / 0x20 = 6) (h₁ : isContinuation b₁ = true) :
    utf8Decode (b₀ :: b₁ :: r)
      = consScalar (scalarFrom 0x80 (b₀.toNat % 0x20 * 0x40 + continuationBits b₁)) (utf8Decode r) := by
  have hnot : ¬ b₀.toNat < 0x80 := by omega
  rw [utf8Decode.eq_def]
  simp only [hnot, h, h₁, if_true, if_false]

theorem utf8Decode_threeBytes {b₀ b₁ b₂ : Byte} (r : Bytes) (h : b₀.toNat / 0x10 = 14)
    (h₁ : isContinuation b₁ = true) (h₂ : isContinuation b₂ = true) :
    utf8Decode (b₀ :: b₁ :: b₂ :: r)
      = consScalar
          (scalarFrom 0x800 (b₀.toNat % 0x10 * 0x1000 + continuationBits b₁ * 0x40 + continuationBits b₂))
          (utf8Decode r) := by
  have hnot : ¬ b₀.toNat < 0x80 ∧ ¬ b₀.toNat / 0x20 = 6 := by omega
  rw [utf8Decode.eq_def]
  simp only [hnot, h, h₁, h₂, Bool.and_self, if_true, if_false]

theorem utf8Decode_fourBytes {b₀ b₁ b₂ b₃ : Byte} (r : Bytes) (h : b₀.toNat / 8 = 30)
    (h₁ : isContinuation b₁ = true) (h₂ : isContinuation b₂ = true) (h₃ : isContinuation b₃ = true) :
    utf8Decode (b₀ :: b₁ :: b₂ :: b₃ :: r)
      = consScalar
          (scalarFrom 0x10000
            (b₀.toNat % 8 * 0x40000 + continuationBits b₁ * 0x1000 + continuationBits b₂ * 0x40 + continuationBits b₃))
          (utf8Decode r) := by
  have hnot : ¬ b₀.toNat < 0x80 ∧ ¬ b₀.toNat / 0x20 = 6 ∧ ¬ b₀.toNat / 0x10 = 14 := by omega
  rw [utf8Decode.eq_def]
  simp only [hnot, h, h₁, h₂, h₃, Bool.and_self, if_true, if_false]

/-! ### The round trip -/

/-- Every scalar value is below 0x110000. -/
theorem char_toNat_lt (ch : Char) : ch.toNat < 0x110000 := by
  obtain h | ⟨_, h⟩ : ch.toNat < 0xD800 ∨ 0xDFFF < ch.toNat ∧ ch.toNat < 0x110000 := ch.valid
  · exact h.trans (by decide)
  · exact h

/-- The shortest form of a scalar value is read back as that value, whatever follows (43 R160). -/
theorem utf8Decode_encodeScalar_append (ch : Char) (r : Bytes) :
    utf8Decode (utf8EncodeScalar ch.toNat ++ r) = (utf8Decode r).map (ch :: ·) := by
  have hmax := char_toNat_lt ch
  have hlow : ch.toNat % 0x40 < 0x40 := Nat.mod_lt _ (by decide)
  have hmid : ch.toNat / 0x40 % 0x40 < 0x40 := Nat.mod_lt _ (by decide)
  have hhigh : ch.toNat / 0x1000 % 0x40 < 0x40 := Nat.mod_lt _ (by decide)
  unfold utf8EncodeScalar
  split_ifs with h1 h2 h3
  · have hlead : (byteOf ch.toNat).toNat = ch.toNat := byteOf_toNat (by omega)
    refine (utf8Decode_oneByte r (by omega)).trans ?_
    exact consScalar_scalarFrom hlead (Nat.zero_le _) _
  · have hlead : (byteOf (0xC0 + ch.toNat / 0x40)).toNat = 0xC0 + ch.toNat / 0x40 := byteOf_toNat (by omega)
    refine (utf8Decode_twoBytes r (by omega) (isContinuation_byteOf hlow)).trans ?_
    rw [hlead, continuationBits_byteOf hlow]
    exact consScalar_scalarFrom (by omega) (by omega) _
  · have hlead : (byteOf (0xE0 + ch.toNat / 0x1000)).toNat = 0xE0 + ch.toNat / 0x1000 := byteOf_toNat (by omega)
    refine (utf8Decode_threeBytes r (by omega) (isContinuation_byteOf hmid) (isContinuation_byteOf hlow)).trans ?_
    rw [hlead, continuationBits_byteOf hmid, continuationBits_byteOf hlow]
    exact consScalar_scalarFrom (by omega) (by omega) _
  · have hlead : (byteOf (0xF0 + ch.toNat / 0x40000)).toNat = 0xF0 + ch.toNat / 0x40000 := byteOf_toNat (by omega)
    refine (utf8Decode_fourBytes r (by omega) (isContinuation_byteOf hhigh) (isContinuation_byteOf hmid)
      (isContinuation_byteOf hlow)).trans ?_
    rw [hlead, continuationBits_byteOf hhigh, continuationBits_byteOf hmid, continuationBits_byteOf hlow]
    exact consScalar_scalarFrom (by omega) (by omega) _

/-- Decoding undoes encoding (43 R160). -/
@[simp] theorem utf8Decode_utf8Encode (t : Text) : utf8Decode (utf8Encode t) = some t := by
  induction t with
  | nil => rfl
  | cons ch t ih =>
    have hcons : utf8Encode (ch :: t) = utf8EncodeScalar ch.toNat ++ utf8Encode t := List.flatMap_cons
    rw [hcons, utf8Decode_encodeScalar_append, ih, Option.map_some]

end Sys2Proof.Machine
end

section
/-!
PROOF. Extraction and UNPK (42 R125, R126): a pixel is its slots and the bits above them, and UNPK reads the slots of
its operand word.
-/

namespace Sys2Proof.Machine

/-! ### The slots and the bits above them -/

/-- The 5 + 6 + 5 bits of a pixel that are no slots (42 R126). -/
def highBits (p : Pixel) : BitVec 5 × BitVec 6 × BitVec 5 :=
  (p.r.extractLsb' 3 5, p.g.extractLsb' 2 6, p.b.extractLsb' 3 5)

/-- The pixel with given high bits and the three fields of a byte in its slots (30 R63). -/
def pixelOf (k : BitVec 5 × BitVec 6 × BitVec 5) (c : Byte) : Pixel :=
  { r := k.1 ++ c.extractLsb' 5 3, g := k.2.1 ++ c.extractLsb' 3 2, b := k.2.2 ++ c.extractLsb' 0 3 }

@[simp] theorem highBits_pixelOf (k : BitVec 5 × BitVec 6 × BitVec 5) (c : Byte) : highBits (pixelOf k c) = k := by
  rw [highBits, pixelOf, BitVec.extractLsb'_append_eq_left, BitVec.extractLsb'_append_eq_left,
    BitVec.extractLsb'_append_eq_left]

@[simp] theorem unpackPixel_pixelOf (k : BitVec 5 × BitVec 6 × BitVec 5) (c : Byte) :
    unpackPixel (pixelOf k c) = c := by
  rw [unpackPixel_eq, pixelOf, BitVec.extractLsb'_append_eq_right, BitVec.extractLsb'_append_eq_right,
    BitVec.extractLsb'_append_eq_right, carrierByte_eq_fields]

/-- A pixel is made of its high bits and the byte in its slots. -/
@[simp] theorem pixelOf_highBits (p : Pixel) : pixelOf (highBits p) (unpackPixel p) = p :=
  (packPixel_eq p _).symm.trans (packPixel_unpackPixel p)

/-- Extraction reads the slots only (42 R126). -/
theorem unpackPixel_eq_of_sameSlots {p q : Pixel} (h : sameSlots p q) : unpackPixel p = unpackPixel q := by
  obtain ⟨hr, hg, hb⟩ := h
  rw [unpackPixel_eq, unpackPixel_eq, hr, hg, hb]

/-- Settles O17: `pixelOf` and the pair of `highBits` and `unpackPixel` are inverse to each other. -/
theorem extractionReadsTheSlotsOnly : Obligations.ExtractionReadsTheSlotsOnly := by
  refine ⟨fun p q => unpackPixel_eq_of_sameSlots, fun c => ⟨pixelOf 0 c, unpackPixel_pixelOf 0 c⟩, fun c p => ?_⟩
  constructor
  · rintro rfl
    exact ⟨highBits p, (pixelOf_highBits p).symm,
      fun k hk => (highBits_pixelOf k _).symm.trans (congrArg highBits hk.symm)⟩
  · rintro ⟨k, hk, -⟩
    exact hk ▸ unpackPixel_pixelOf k c

/-! ### UNPK -/

/-- The byte that UNPK reads from its operand word (30 R74). -/
theorem unpackPixel_operand (imm : BitVec 32) :
    unpackPixel (unpkPixelOperand imm) = imm.extractLsb' 16 3 ++ imm.extractLsb' 8 2 ++ imm.extractLsb' 0 3 := by
  rw [unpackPixel_eq]
  simp only [unpkPixelOperand, extractLsb'_extractLsb'_eq, Nat.reduceAdd, Nat.reduceLeDiff]

/-- The next state of UNPK: the pixel and its byte in the registers, the byte in `RES` (42 R125). -/
theorem unpkEffect_eq (p : Params) (s : State) :
    unpkEffect p s
      = deliver (resResult (.byte (unpackPixel (unpkPixelOperand s.opnd.imm))))
          (setDatapath
            (loadByte (unpackPixel (unpkPixelOperand s.opnd.imm)) (loadPixel (unpkPixelOperand s.opnd.imm) s.dp)) s) :=
  rfl

/-- Settles O19: the registers were loaded from the operand word, and the slots of its pixel are fields of the word. -/
theorem unpkExtractsTheByteOfThePixel : Obligations.UnpkExtractsTheByteOfThePixel := by
  intro s
  rw [exec_eq_effect, effect, unpkEffect_eq, unpackPixel_operand]
  rfl

end Sys2Proof.Machine
end

section
/-!
PROOF. EXTRACT (42 R130 to R135): the byte of every pixel, the bytes of an EMBED output, and the per-pixel realisation.
-/

namespace Sys2Proof.Machine

/-! ### The bytes in the slots -/

@[simp] theorem slotBytes_length (fmt : Fmt) (src : List SrcElem) : (slotBytes fmt src).length = src.length :=
  List.length_map _

theorem slotBytes_getElem? {fmt : Fmt} {src : List SrcElem} {i : Nat} {e : SrcElem} (he : src[i]? = some e) :
    (slotBytes fmt src)[i]? = some (unpackPixel (rgb fmt e)) := by
  rw [slotBytes, List.getElem?_map, he, Option.map_some]

/-! ### The whole operation -/

/-- The traversal leaves the last pixel in the registers and its byte in `C` (10 R16). -/
theorem traverse_extract_last {fmt : Fmt} {src : List SrcElem} {e : SrcElem} (he : src.getLast? = some e)
    (d : Datapath) :
    ∃ d', (traverse (extractPixel fmt) src d).1
      = advance (loadByte (unpackPixel (rgb fmt e)) (loadPixel (rgb fmt e) d')) := by
  obtain ⟨xs, rfl⟩ := List.getLast?_eq_some_iff.1 he
  exact ⟨_, congrArg Prod.fst (traverse_concat (extractPixel fmt) xs e d)⟩

/-- Settles O31: `RAW` is the bytes in the slots; the registers are the last pixel's, or those of the start. -/
theorem extractReadsAByteFromEveryPixel : Obligations.ExtractReadsAByteFromEveryPixel := by
  intro fmt s hshape
  have hindex := traverse_index _ (extractPixel_i fmt) s.opnd.src (startIndex s.dp)
  refine ⟨_, slotBytes fmt s.opnd.src, exec_extract_of_shape fmt hshape, rfl, rfl, rfl,
    (slotBytes_length _ _).trans hshape, fun _ _ => slotBytes_getElem?, rfl, ?_, fun e he => ?_, fun hnil => ?_⟩
  · simpa [hshape] using hindex
  · obtain ⟨d, hlast⟩ := traverse_extract_last (fmt := fmt) he (startIndex s.dp)
    rw [hlast]
    exact ⟨rfl, rfl, rfl, rfl⟩
  · rw [hnil]
    exact ⟨rfl, rfl, rfl, rfl⟩

/-! ### The bytes of an EMBED output -/

/-- A delivered grid presented again has a good descriptor where `W * H` is the grid's (20 R56). -/
theorem shape_of_rslt_out {p : Params} {i : Instr} {s u : State} {g : Grid} (hout : (effect p i s).rslt.out = some g)
    (hu : u.opnd.src = asSource g.px) (hwh : u.w * u.h = g.w * g.h) : u.opnd.src.length = u.w * u.h := by
  rw [hu, hwh, asSource, List.length_map, length_of_rslt_out hout]

/-- A grid delivered by EMBED or ENCODE spells the bytes and then what the untouched pixels hold (42 R133). -/
theorem slotBytes_of_embedding {p : Params} {fmt : Fmt} {data : Bytes} {s : State} {g : Grid}
    (hout : (withDescriptor p (embedStage fmt data) s).rslt.out = some g) :
    slotBytes .rgb (asSource g.px) = data ++ (slotBytes fmt s.opnd.src).drop data.length := by
  obtain ⟨hshape, hfits, hpx, -⟩ := withDescriptor_embedStage_of_out p fmt data s g hout
  rw [hpx, slotBytes_mapIdx_embedElement (hshape ▸ hfits)]

/-- Settles O32: the noise is the bytes in the slots of the source from `LEN` on. -/
theorem extractInvertsEmbed : Obligations.ExtractInvertsEmbed := by
  intro fmt s t u v g ht hout hu hwh hv
  obtain rfl := (exec_next_iff _ s t).1 ht
  obtain ⟨hshape, -⟩ := withDescriptor_embedStage_of_out Config.params fmt s.opnd.data s g hout
  rw [exec_extract_of_shape .rgb (shape_of_rslt_out hout hu hwh)] at hv
  obtain rfl := Host.Outcome.next.inj hv
  refine ⟨(slotBytes fmt s.opnd.src).drop s.opnd.data.length, ?_, ?_, fun j e he => ?_⟩
  · rw [deliver_rslt, rawResult_raw, hu, slotBytes_of_embedding hout]
  · rw [List.length_drop, slotBytes_length, hshape]
  · rw [List.getElem?_drop, slotBytes_getElem? he]

/-! ### The per-pixel realisation -/

/-- Under either descriptor the run of start, pixel steps and end gives the state of the whole operation. -/
theorem extractSeqRun_eq_effect (p : Params) (fmt : Fmt) (s : State) :
    extractSeqRun p fmt s = some (effect p (.extract fmt) s) := by
  change seqRun _ _ _ = some (withDescriptor p (extractDeliver fmt) s)
  rcases withDescriptor_cases p (extractDeliver fmt) s with ⟨hshape, hindex, heq⟩ | ⟨hbad, heq⟩
  · rw [heq, extractSeqStart_running p s hshape hindex, seqRun_open _ (extractPixel_i fmt) _ _ hshape]
    rfl
  · rw [heq, extractSeqStart_bad p s hbad]
    rfl

/-- Settles O59: the run agrees with `effect` at any parameters, and `exec` is `effect` at the machine's. -/
theorem extractSequencerIsTheOperation : Obligations.ExtractSequencerIsTheOperation := fun fmt s =>
  ⟨fun p => extractSeqRun_eq_effect p fmt s, _, exec_eq_effect _ s, extractSeqRun_eq_effect Config.params fmt s⟩

/-- Settles O33: a start that the descriptor does not end opens the run that gives the state of the whole operation, and
`seqSteps_open_spec` says what such a run holds after each step. -/
theorem extractSequencerAgrees : Obligations.ExtractSequencerAgrees := by
  intro p fmt s
  refine ⟨fun hbad => ?_, fun hshape hwidth => ?_⟩
  · rw [← fitsIndex_eq_false_iff] at hbad
    exact extractSeqStart_bad p s hbad
  · have hstart := extractSeqStart_running p s hshape ((fitsIndex_eq_true_iff p _).2 hwidth)
    have hrun := extractSeqRun_eq_effect p fmt s
    rw [extractSeqRun, hstart] at hrun
    refine ⟨_, hstart, fun k hk => ?_⟩
    rw [← traverse_extract fmt s.opnd.src (startIndex s.dp)]
    exact seqSteps_open_spec _ _ (extractPixel_i fmt) _ hshape hrun hk

end Sys2Proof.Machine
end

section
/-!
PROOF. DECODE (42 R138 to R146): its two outcomes by what the slots spell, the round trip with ENCODE, and the carriers
that were altered.
-/

namespace Sys2Proof.Machine

/-! ### The two outcomes -/

/-- Slots that spell a text give that text (42 R138). -/
theorem decodeStages_of_text {p : Params} {fmt : Fmt} {s : State} {txt : Text}
    (h : (p.K.decompress (slotBytes fmt s.opnd.src)).bind utf8Decode = some txt) :
    decodeStages p fmt s = deliver (txtoResult txt) (extractStage fmt s).1 := by
  rcases decodeStages_cases p fmt s with ⟨plain, t, hk, hu, heq⟩ | ⟨hk | ⟨plain, hk, hu⟩, heq⟩
  · rw [hk, Option.bind_some, hu] at h
    rw [heq, Option.some.inj h]
  · rw [hk] at h; cases h
  · rw [hk, Option.bind_some, hu] at h; cases h

/-- Slots that spell none are "not watermarked", whichever stage failed (42 R139). -/
theorem decodeStages_of_noText {p : Params} {fmt : Fmt} {s : State}
    (h : (p.K.decompress (slotBytes fmt s.opnd.src)).bind utf8Decode = none) :
    decodeStages p fmt s = answerNotWatermarked (extractStage fmt s).1 := by
  rcases decodeStages_cases p fmt s with ⟨plain, t, hk, hu, heq⟩ | ⟨_, heq⟩
  · rw [hk, Option.bind_some, hu] at h; cases h
  · exact heq

/-- DECODE under a good descriptor runs its stages (42 R138). -/
theorem exec_decode_of_shape (fmt : Fmt) {s : State} (hshape : s.opnd.src.length = s.w * s.h) :
    exec (.decode fmt) s = .next (decodeStages Config.params fmt s) := by
  rw [exec_eq_effect, effect, decodeEffect, withDescriptor_good _ _ _ hshape rfl]

/-- Either way DECODE ends without a fault, in the registers the EXTRACT stage leaves (42 R140, 10 R16). -/
theorem decodeStages_endOperation (p : Params) (fmt : Fmt) (s : State) :
    ∃ code r, decodeStages p fmt s = endOperation code r (extractStage fmt s).1 ∧ faultBit code.code = false := by
  rcases decodeStages_cases p fmt s with ⟨_, _, _, _, heq⟩ | ⟨_, heq⟩
  · exact ⟨.done, _, heq, rfl⟩
  · exact ⟨.notWatermarked, _, heq, rfl⟩

/-- Settles O34: the outcome is fixed by what the slots spell, the registers are those of the EXTRACT stage. -/
theorem decodeAnswersATaggedResult : Obligations.DecodeAnswersATaggedResult := by
  intro fmt s hshape
  obtain ⟨code, r, heq, hnofault⟩ := decodeStages_endOperation Config.params fmt s
  refine ⟨_, exec_decode_of_shape fmt hshape, by rw [heq]; rfl, by rw [heq]; exact hnofault,
    fun plain txt hk hu => ?_, fun plain hk hu => ?_, fun hk => ?_, ?_, fun u hu => ?_⟩
  · rw [decodeStages_of_text (by rw [hk, Option.bind_some, hu])]
    exact ⟨rfl, rfl⟩
  · rw [decodeStages_of_noText (by rw [hk, Option.bind_some, hu])]
    exact ⟨rfl, rfl⟩
  · rw [decodeStages_of_noText (by rw [hk, Option.bind_none])]
    exact ⟨rfl, rfl⟩
  · rw [heq]; rfl
  · rw [exec_extract_of_shape fmt hshape] at hu
    obtain rfl := Host.Outcome.next.inj hu
    rw [heq, extractStage_eq]; rfl

/-! ### The stages -/

/-- UTF8D delivers the text of valid bytes (43 R158). -/
theorem exec_utf8d_of_some {s : State} {t : Text} (h : utf8Decode s.opnd.plain = some t) :
    exec .utf8d s = .next (deliver (txtoResult t) s) := by
  rw [exec_eq_effect, effect, utf8dEffect, h]

/-- UTF8D faults on other bytes (43 R158). -/
theorem exec_utf8d_of_none {s : State} (h : utf8Decode s.opnd.plain = none) :
    exec .utf8d s = .next (raiseFault .invalidUtf8 s) := by
  rw [exec_eq_effect, effect, utf8dEffect, h]

/-- DECODE delivers none of the bytes between its stages (42 R146). -/
theorem decodeEffect_delivers_no_bytes (p : Params) (fmt : Fmt) (s : State) :
    (decodeEffect p fmt s).rslt.raw = none ∧ (decodeEffect p fmt s).rslt.plain = none := by
  unfold decodeEffect
  rcases withDescriptor_cases p (decodeStages p fmt) s with ⟨_, _, heq⟩ | ⟨_, heq⟩
  · rw [heq]
    rcases decodeStages_cases p fmt s with ⟨_, _, _, _, hrun⟩ | ⟨_, hrun⟩
    · rw [hrun]; exact ⟨rfl, rfl⟩
    · rw [hrun]; exact ⟨rfl, rfl⟩
  · rw [heq]; exact ⟨rfl, rfl⟩

/-- An EXTRACT that delivers had a good descriptor, and delivers the bytes in the slots (42 R130, R131). -/
theorem extract_of_raw {fmt : Fmt} {s t : State} {raw : Bytes} (ht : exec (.extract fmt) s = .next t)
    (hraw : t.rslt.raw = some raw) : s.opnd.src.length = s.w * s.h ∧ raw = slotBytes fmt s.opnd.src := by
  by_cases hshape : s.opnd.src.length = s.w * s.h
  · rw [exec_extract_of_shape fmt hshape] at ht
    obtain rfl := Host.Outcome.next.inj ht
    exact ⟨hshape, (Option.some.inj hraw).symm⟩
  · rw [exec_eq_effect, effect, extractEffect, withDescriptor_bad _ _ _ (.inl hshape)] at ht
    obtain rfl := Host.Outcome.next.inj ht
    cases hraw

/-- Settles O35: the stages are split by what the decompressor and the UTF-8 decoder answer, as DECODE's outcome is. -/
theorem decodeEqualsItsStages : Obligations.DecodeEqualsItsStages := by
  intro fmt s s₁ t h₁ ht
  obtain rfl := (exec_next_iff _ s t).1 ht
  obtain ⟨hraw, hplain⟩ := decodeEffect_delivers_no_bytes Config.params fmt s
  refine ⟨hraw, hplain, fun hshape => ?_, fun raw s₂ hraw₁ h₂ => ?_⟩
  · rw [effect, decodeEffect, withDescriptor_bad _ _ _ (.inl hshape)]; rfl
  obtain ⟨hshape, rfl⟩ := extract_of_raw h₁ hraw₁
  rw [effect, decodeEffect, withDescriptor_good _ _ _ hshape rfl, observed_decodeStages]
  cases hk : Config.params.K.decompress (slotBytes fmt s.opnd.src) with
  | none =>
    rw [exec_dcmp_of_none hk] at h₂
    obtain rfl := Host.Outcome.next.inj h₂
    exact ⟨fun _ => rfl, nofun⟩
  | some q =>
    rw [exec_dcmp_of_some hk] at h₂
    obtain rfl := Host.Outcome.next.inj h₂
    refine ⟨nofun, fun plain s₃ hplain₂ h₃ => ?_⟩
    obtain rfl : q = plain := Option.some.inj hplain₂
    cases hu : utf8Decode q with
    | none =>
      rw [exec_utf8d_of_none hu] at h₃
      obtain rfl := Host.Outcome.next.inj h₃
      rw [Option.bind_some, hu]
      exact ⟨fun _ => rfl, nofun⟩
    | some txt =>
      rw [exec_utf8d_of_some hu] at h₃
      obtain rfl := Host.Outcome.next.inj h₃
      rw [Option.bind_some, hu]
      exact ⟨nofun, fun _ => rfl⟩

/-! ### Carriers of a text -/

/-- Slots that begin with the stream of a text spell that text, whatever follows (40 R89, 43 R160). -/
theorem exec_decode_of_stream {fmt : Fmt} {s : State} {txt : Text} {rest : Bytes}
    (hshape : s.opnd.src.length = s.w * s.h)
    (hslots : slotBytes fmt s.opnd.src = Config.params.K.compress (utf8Encode txt) ++ rest) :
    exec (.decode fmt) s = .next (deliver (txtoResult txt) (extractStage fmt s).1) := by
  have htext : (Config.params.K.decompress (slotBytes fmt s.opnd.src)).bind utf8Decode = some txt := by
    rw [hslots, Config.params.K.self_terminating, Option.bind_some, utf8Decode_utf8Encode]
  rw [exec_decode_of_shape fmt hshape, decodeStages_of_text htext]

/-- Slots that spell a proper beginning of a stream are "not watermarked" (40 R91). -/
theorem exec_decode_of_proper_prefix {fmt : Fmt} {s : State} {x : Bytes} (hshape : s.opnd.src.length = s.w * s.h)
    (hprefix : slotBytes fmt s.opnd.src <+: Config.params.K.compress x)
    (hshort : s.opnd.src.length < (Config.params.K.compress x).length) :
    exec (.decode fmt) s = .next (answerNotWatermarked (extractStage fmt s).1) := by
  have hnone : Config.params.K.decompress (slotBytes fmt s.opnd.src) = none :=
    Config.params.K.truncation_detected x _ hprefix (by rwa [slotBytes_length])
  rw [exec_decode_of_shape fmt hshape, decodeStages_of_noText (by rw [hnone]; rfl)]

/-- Settles O36: the slots of `OUT` hold the stream of the text and then what the untouched pixels held. -/
theorem decodeOfEncodeRecoversTheText : Obligations.DecodeOfEncodeRecoversTheText := by
  intro fmt s hshape hfits
  have hrun := embedding_of_fits (fmt := fmt) hshape hfits
  have hout := congrArg (·.rslt.out) hrun
  refine ⟨_, _, exec_encode fmt s, (embedding_status_done_iff hshape).2 hfits, hout, fun u hu hwh => ?_⟩
  have hshape' := shape_of_rslt_out (i := .encode fmt) hout hu hwh
  exact ⟨_, exec_decode_of_stream hshape' (hu ▸ slotBytes_of_embedding hout), rfl, rfl⟩

/-- Settles O37: the round trip at the empty text, whose stream has a byte like every other. -/
theorem emptyTextIsRecovered : Obligations.EmptyTextIsRecovered := by
  intro fmt s hempty hshape hfits
  have hfits' : (Config.params.K.compress (utf8Encode s.opnd.txt)).length ≤ s.w * s.h := hempty ▸ hfits
  obtain ⟨t, g, ht, hdone, hout, hdecode⟩ := decodeOfEncodeRecoversTheText fmt s hshape hfits'
  refine ⟨t, g, ht, hout, emptyDataLeavesTheImage.2 fmt s t ht hdone, fun u hu hwh => ?_⟩
  obtain ⟨v, hv, hdone', htext⟩ := hdecode u hu hwh
  exact ⟨v, hv, hdone', hdone' ▸ by decide, hempty ▸ htext⟩

/-! ### Altered carriers -/

/-- Where the slots of two grids agree below `n`, so do the bytes extracted from them (42 R126). -/
theorem slotBytes_take_eq_of_sameSlots {fmt : Fmt} {px : List Pixel} {src : List SrcElem} {n : Nat}
    (hpx : n ≤ px.length) (hsrc : n ≤ src.length)
    (hslots : ∀ (i : Nat) (p : Pixel) (e : SrcElem), i < n → px[i]? = some p → src[i]? = some e →
      sameSlots p (rgb fmt e)) :
    (slotBytes fmt src).take n = (slotBytes .rgb (asSource px)).take n := by
  have hsource : n ≤ (asSource px).length := by rwa [asSource, List.length_map]
  refine List.ext_getElem (by simp [hsrc, hsource]) fun i hi _ => ?_
  have hin : i < n := (List.length_take_le ..).trans_lt' hi
  have heq := unpackPixel_eq_of_sameSlots (hslots i _ _ hin (List.getElem?_eq_getElem (hin.trans_le hpx))
    (List.getElem?_eq_getElem (hin.trans_le hsrc)))
  simpa [slotBytes, asSource, rgb] using heq.symm

/-- Settles O38: the bytes below `LEN` are those of the ENCODE output, the stream of the text: the whole of it, which is
read whatever follows, or a proper beginning, which is corrupt. -/
theorem alteredCarriersDecodeByTheirSlots : Obligations.AlteredCarriersDecodeByTheirSlots := by
  intro fmt fmt' s t v v' g ht hout hshape hslots hv
  rw [exec_encode] at ht
  obtain rfl := Host.Outcome.next.inj ht
  obtain ⟨hsource, hfits, hpx, heq⟩ := withDescriptor_embedStage_of_out Config.params fmt _ s g hout
  have hlen := congrArg State.len heq
  rw [deliver_len, setDatapath_len, setLen_len] at hlen
  rw [hlen] at hslots ⊢
  have hpixels : g.px.length = s.w * s.h := by rw [hpx, List.length_mapIdx, hsource]
  rw [← hpixels] at hfits
  constructor
  · intro hlong
    have hstream := slotBytes_take_eq_of_sameSlots hfits hlong hslots
    rw [slotBytes_of_embedding hout, List.take_left] at hstream
    rw [exec_decode_of_stream hshape (List.prefix_iff_eq_append.1 (hstream ▸ List.take_prefix ..)).symm] at hv
    obtain rfl := Host.Outcome.next.inj hv
    exact ⟨rfl, rfl⟩
  · intro hshort
    have hprefix := slotBytes_take_eq_of_sameSlots (hshort.le.trans hfits) le_rfl fun i p e hi =>
      hslots i p e (hi.trans hshort)
    rw [List.take_of_length_le (slotBytes_length fmt' v.opnd.src).le, slotBytes_of_embedding hout,
      List.take_append_of_le_length hshort.le] at hprefix
    rw [exec_decode_of_proper_prefix hshape (hprefix ▸ List.take_prefix ..) hshort] at hv
    obtain rfl := Host.Outcome.next.inj hv
    exact ⟨rfl, rfl⟩

/-! ### Images never watermarked -/

/-- Settles O40: the byte 0x00 first is a whole stream of `T0`, that of the empty input (40 R97). -/
theorem unwatermarkedImageCanDecodeToText : Obligations.UnwatermarkedImageCanDecodeToText := by
  intro fmt s e hshape hhead hzero
  obtain ⟨es, hsrc⟩ := List.head?_eq_some_iff.1 hhead
  have hslots : slotBytes fmt s.opnd.src = t0Compress [] ++ slotBytes fmt es := by
    rw [hsrc, slotBytes, List.map_cons, hzero]; rfl
  have hplain : Config.testParams.K.decompress (slotBytes fmt s.opnd.src) = some [] := by
    rw [hslots]; exact t0_self_terminating [] _
  rw [effect, decodeEffect, withDescriptor_good _ _ _ hshape (fitsIndex_testParams _), observed_decodeStages, hplain]
  rfl

end Sys2Proof.Machine
end

section
/-!
PROOF. The UTF-8 encoder and the strict decoder (43 R156, R159, R160): the bytes of each form read as numbers, and what a
successful decoding began with.
-/

namespace Sys2Proof.Machine

/-! ### The four forms the encoder writes -/

@[simp] theorem utf8Encode_nil : utf8Encode [] = [] := rfl

theorem utf8Encode_cons (ch : Char) (t : Text) : utf8Encode (ch :: t) = utf8EncodeScalar ch.toNat ++ utf8Encode t :=
  List.flatMap_cons

theorem utf8Encode_singleton (ch : Char) : utf8Encode [ch] = utf8EncodeScalar ch.toNat := by
  rw [utf8Encode_cons, utf8Encode_nil, List.append_nil]

theorem utf8EncodeScalar_oneByte {v : Nat} (h : v < 0x80) : utf8EncodeScalar v = [byteOf v] :=
  if_pos h

theorem utf8EncodeScalar_twoBytes {v : Nat} (hmin : 0x80 ≤ v) (hmax : v < 0x800) :
    utf8EncodeScalar v = [byteOf (0xC0 + v / 0x40), byteOf (0x80 + v % 0x40)] := by
  rw [utf8EncodeScalar, if_neg (by omega), if_pos hmax]

theorem utf8EncodeScalar_threeBytes {v : Nat} (hmin : 0x800 ≤ v) (hmax : v < 0x10000) :
    utf8EncodeScalar v
      = [byteOf (0xE0 + v / 0x1000), byteOf (0x80 + v / 0x40 % 0x40), byteOf (0x80 + v % 0x40)] := by
  rw [utf8EncodeScalar, if_neg (by omega), if_neg (by omega), if_pos hmax]

theorem utf8EncodeScalar_fourBytes {v : Nat} (hmin : 0x10000 ≤ v) :
    utf8EncodeScalar v
      = [byteOf (0xF0 + v / 0x40000), byteOf (0x80 + v / 0x1000 % 0x40), byteOf (0x80 + v / 0x40 % 0x40),
          byteOf (0x80 + v % 0x40)] := by
  rw [utf8EncodeScalar, if_neg (by omega), if_neg (by omega), if_neg (by omega)]

/-- The bytes that UTF-8 uses: 0xC0, 0xC1 and 0xF5 to 0xFF are never written (43 R159). -/
theorem toNat_of_mem_utf8EncodeScalar {v : Nat} (hv : v < 0x110000) {x : Byte} (hx : x ∈ utf8EncodeScalar v) :
    x.toNat < 0xC0 ∨ 0xC2 ≤ x.toNat ∧ x.toNat < 0xF5 := by
  unfold utf8EncodeScalar at hx
  split_ifs at hx with h1 h2 h3 <;> simp only [List.mem_cons, List.not_mem_nil, or_false] at hx
  · subst hx
    rw [byteOf_toNat (by omega)]
    omega
  · rcases hx with rfl | rfl <;> rw [byteOf_toNat (by omega)] <;> omega
  · rcases hx with rfl | rfl | rfl <;> rw [byteOf_toNat (by omega)] <;> omega
  · rcases hx with rfl | rfl | rfl | rfl <;> rw [byteOf_toNat (by omega)] <;> omega

/-! ### The four forms the decoder reads -/

theorem byteOf_eq {b : Byte} {v : Nat} (h : v = b.toNat) : byteOf v = b :=
  BitVec.eq_of_toNat_eq ((byteOf_toNat (h ▸ b.isLt)).trans h)

/-- A continuation byte is `10` above its payload (43 R156). -/
theorem toNat_of_isContinuation {b : Byte} (h : isContinuation b = true) :
    b.toNat = 0x80 + continuationBits b ∧ continuationBits b < 0x40 := by
  have hfield : b.toNat / 0x40 = 2 := of_decide_eq_true h
  rw [continuationBits]
  omega

/-- Two bytes of the form, long enough for their value, are its encoding (43 R156). -/
theorem utf8EncodeScalar_of_twoBytes {b₀ b₁ : Byte} (h : b₀.toNat / 0x20 = 6) (h₁ : isContinuation b₁ = true)
    {v : Nat} (hv : v = b₀.toNat % 0x20 * 0x40 + continuationBits b₁) (hleast : 0x80 ≤ v) :
    utf8EncodeScalar v = [b₀, b₁] := by
  obtain ⟨hb₁, hlt₁⟩ := toNat_of_isContinuation h₁
  rw [utf8EncodeScalar_twoBytes hleast (by omega), byteOf_eq (b := b₀) (by omega), byteOf_eq (b := b₁) (by omega)]

/-- Three bytes of the form, long enough for their value, are its encoding (43 R156). -/
theorem utf8EncodeScalar_of_threeBytes {b₀ b₁ b₂ : Byte} (h : b₀.toNat / 0x10 = 14) (h₁ : isContinuation b₁ = true)
    (h₂ : isContinuation b₂ = true) {v : Nat}
    (hv : v = b₀.toNat % 0x10 * 0x1000 + continuationBits b₁ * 0x40 + continuationBits b₂) (hleast : 0x800 ≤ v) :
    utf8EncodeScalar v = [b₀, b₁, b₂] := by
  obtain ⟨hb₁, hlt₁⟩ := toNat_of_isContinuation h₁
  obtain ⟨hb₂, hlt₂⟩ := toNat_of_isContinuation h₂
  rw [utf8EncodeScalar_threeBytes hleast (by omega), byteOf_eq (b := b₀) (by omega), byteOf_eq (b := b₁) (by omega),
    byteOf_eq (b := b₂) (by omega)]

/-- Four bytes of the form, long enough for their value, are its encoding (43 R156). -/
theorem utf8EncodeScalar_of_fourBytes {b₀ b₁ b₂ b₃ : Byte} (h : b₀.toNat / 8 = 30) (h₁ : isContinuation b₁ = true)
    (h₂ : isContinuation b₂ = true) (h₃ : isContinuation b₃ = true) {v : Nat}
    (hv : v = b₀.toNat % 8 * 0x40000 + continuationBits b₁ * 0x1000 + continuationBits b₂ * 0x40 + continuationBits b₃)
    (hleast : 0x10000 ≤ v) : utf8EncodeScalar v = [b₀, b₁, b₂, b₃] := by
  obtain ⟨hb₁, hlt₁⟩ := toNat_of_isContinuation h₁
  obtain ⟨hb₂, hlt₂⟩ := toNat_of_isContinuation h₂
  obtain ⟨hb₃, hlt₃⟩ := toNat_of_isContinuation h₃
  rw [utf8EncodeScalar_fourBytes hleast, byteOf_eq (b := b₀) (by omega), byteOf_eq (b := b₁) (by omega),
    byteOf_eq (b := b₂) (by omega), byteOf_eq (b := b₃) (by omega)]

/-! ### What a successful decoding began with -/

/-- The bytes `b` begin with the shortest form of the first scalar value of `t`, and what follows decodes to the others. -/
def BeginsWithFirstScalar (b : Bytes) (t : Text) : Prop :=
  ∃ ch u rest, t = ch :: u ∧ b = utf8EncodeScalar ch.toNat ++ rest ∧ utf8Decode rest = some u

/-- A text put together from a value, in a form it is long enough for, and the decoded rest. -/
theorem beginsWithFirstScalar_of_consScalar {least v : Nat} {form rest : Bytes} {t : Text}
    (hform : least ≤ v → utf8EncodeScalar v = form)
    (h : consScalar (scalarFrom least v) (utf8Decode rest) = some t) : BeginsWithFirstScalar (form ++ rest) t := by
  unfold scalarFrom at h
  split_ifs at h with hv
  · obtain ⟨hleast, hvalid⟩ := hv
    cases hu : utf8Decode rest with
    | none => rw [hu] at h; cases h
    | some u =>
      rw [hu] at h
      have hch : (Char.ofNat v).toNat = v := (Char.toNat_ofNat v).trans (if_pos hvalid)
      exact ⟨_, u, rest, (Option.some.inj h).symm, by rw [hch, hform hleast], hu⟩
  · cases h

/-- A byte that begins none of the four forms begins no text (43 R159). -/
theorem utf8Decode_of_noLead {b₀ : Byte} (r : Bytes) (h1 : ¬ b₀.toNat < 0x80) (h2 : ¬ b₀.toNat / 0x20 = 6)
    (h3 : ¬ b₀.toNat / 0x10 = 14) (h4 : ¬ b₀.toNat / 8 = 30) : utf8Decode (b₀ :: r) = none := by
  rw [utf8Decode.eq_def]
  simp only [h1, h2, h3, h4, if_false]

/-- Everything a successful decoding of at least one byte can have read (43 R159). -/
theorem beginsWithFirstScalar_of_utf8Decode {b₀ : Byte} {r : Bytes} {t : Text} (h : utf8Decode (b₀ :: r) = some t) :
    BeginsWithFirstScalar (b₀ :: r) t := by
  rw [utf8Decode.eq_def] at h
  dsimp only at h
  split_ifs at h with h1 h2 h3 h4
  · exact beginsWithFirstScalar_of_consScalar (form := [b₀])
      (fun _ => (utf8EncodeScalar_oneByte h1).trans (by rw [byteOf_eq rfl])) h
  · match r, h with
    | b₁ :: r, h =>
      dsimp only at h
      split_ifs at h with hc
      exact beginsWithFirstScalar_of_consScalar (form := [b₀, b₁]) (utf8EncodeScalar_of_twoBytes h2 hc rfl) h
  · match r, h with
    | b₁ :: b₂ :: r, h =>
      dsimp only at h
      split_ifs at h with hc
      obtain ⟨hc₁, hc₂⟩ := Bool.and_eq_true_iff.1 hc
      exact beginsWithFirstScalar_of_consScalar (form := [b₀, b₁, b₂])
        (utf8EncodeScalar_of_threeBytes h3 hc₁ hc₂ rfl) h
  · match r, h with
    | b₁ :: b₂ :: b₃ :: r, h =>
      dsimp only at h
      split_ifs at h with hc
      obtain ⟨hc', hc₃⟩ := Bool.and_eq_true_iff.1 hc
      obtain ⟨hc₁, hc₂⟩ := Bool.and_eq_true_iff.1 hc'
      exact beginsWithFirstScalar_of_consScalar (form := [b₀, b₁, b₂, b₃])
        (utf8EncodeScalar_of_fourBytes h4 hc₁ hc₂ hc₃ rfl) h

/-- Bytes that decode are the encoding of what they decode to: no other spelling is accepted (43 R159). -/
theorem eq_utf8Encode_of_utf8Decode {b : Bytes} {t : Text} (h : utf8Decode b = some t) : b = utf8Encode t := by
  induction t generalizing b with
  | nil =>
    cases b with
    | nil => rfl
    | cons b₀ r =>
      obtain ⟨_, _, _, hnil, -⟩ := beginsWithFirstScalar_of_utf8Decode h
      cases hnil
  | cons ch t ih =>
    cases b with
    | nil => cases h
    | cons b₀ r =>
      obtain ⟨_, _, rest, hcons, hb, hrest⟩ := beginsWithFirstScalar_of_utf8Decode h
      obtain ⟨rfl, rfl⟩ := List.cons.inj hcons
      rw [hb, utf8Encode_cons, ih hrest]

theorem utf8Decode_eq_some_iff {b : Bytes} {t : Text} : utf8Decode b = some t ↔ b = utf8Encode t :=
  ⟨eq_utf8Encode_of_utf8Decode, fun h => h ▸ utf8Decode_utf8Encode t⟩

theorem utf8Decode_eq_none_iff {b : Bytes} : utf8Decode b = none ↔ ∀ t, b ≠ utf8Encode t := by
  simp only [Option.eq_none_iff_forall_ne_some, ne_eq, utf8Decode_eq_some_iff]

/-- Settles O47: the bytes of a decoded text are those the encoder writes, and a lead byte is below 0x80 or at least 0xC0. -/
theorem utf8DecoderIsStrict : Obligations.Utf8DecoderIsStrict := by
  refine ⟨fun b t => utf8Decode_eq_some_iff, fun b x hx hunused => ?_, fun x b hmin hmax => ?_⟩
  · refine utf8Decode_eq_none_iff.2 fun t hb => ?_
    have hbyte : x.toNat = 0xC0 ∨ x.toNat = 0xC1 ∨ 0xF5 ≤ x.toNat :=
      hunused.imp (congrArg BitVec.toNat) (.imp_left (congrArg BitVec.toNat))
    rw [hb, utf8Encode, List.mem_flatMap] at hx
    obtain ⟨ch, -, hch⟩ := hx
    have hused := toNat_of_mem_utf8EncodeScalar (char_toNat_lt ch) hch
    omega
  · exact utf8Decode_of_noLead b (by omega) (by omega) (by omega) (by omega)

end Sys2Proof.Machine
end

section
/-!
PROOF. The encoder's table as bit fields (43 R156), the round trip (43 R160), and the two text stages (43 R155, R158).
-/

namespace Sys2Proof.Machine

/-! ### The bytes of the table -/

/-- Marker bits above a field of a number, read as a byte. -/
theorem byteOf_eq_append {k len : Nat} (pre : BitVec k) {n start v : Nat} (hn : n < 2 ^ 21) (hbyte : k + len = 8)
    (hv : v = pre.toNat * 2 ^ len + n / 2 ^ start % 2 ^ len) :
    byteOf v = (pre ++ (BitVec.ofNat 21 n).extractLsb' start len).cast hbyte := by
  refine byteOf_eq ?_
  rw [hv, BitVec.toNat_cast, BitVec.toNat_append, BitVec.extractLsb'_toNat, BitVec.toNat_ofNat, Nat.mod_eq_of_lt hn,
    Nat.shiftRight_eq_div_pow, ← Nat.shiftLeft_add_eq_or_of_lt (Nat.mod_lt _ (Nat.two_pow_pos len)),
    Nat.shiftLeft_eq]

/-- Settles O45: a text's encoding is put together character by character, and each byte of a form is its marker bits above a
field of the value. -/
theorem utf8EncodesInTheShortestForm : Obligations.Utf8EncodesInTheShortestForm := by
  refine ⟨fun t u => List.flatMap_append, fun ch => ?_⟩
  have hmax := char_toNat_lt ch
  have hn : ch.toNat < 2 ^ 21 := hmax.trans (by decide)
  rw [utf8Encode_singleton]
  refine ⟨fun h => ?_, fun hmin hlt => ?_, fun hmin hlt => ?_, fun hmin => ?_⟩
  · rw [utf8EncodeScalar_oneByte h, byteOf_eq_append 0b0#1 (start := 0) (len := 7) hn rfl (by bv_omega)]
    rfl
  · rw [utf8EncodeScalar_twoBytes hmin hlt,
      byteOf_eq_append 0b110#3 (start := 6) (len := 5) hn rfl (by bv_omega),
      byteOf_eq_append 0b10#2 (start := 0) (len := 6) hn rfl (by bv_omega)]
    rfl
  · rw [utf8EncodeScalar_threeBytes hmin hlt,
      byteOf_eq_append 0b1110#4 (start := 12) (len := 4) hn rfl (by bv_omega),
      byteOf_eq_append 0b10#2 (start := 6) (len := 6) hn rfl (by bv_omega),
      byteOf_eq_append 0b10#2 (start := 0) (len := 6) hn rfl (by bv_omega)]
    rfl
  · rw [utf8EncodeScalar_fourBytes hmin,
      byteOf_eq_append 0b11110#5 (start := 18) (len := 3) hn rfl (by bv_omega),
      byteOf_eq_append 0b10#2 (start := 12) (len := 6) hn rfl (by bv_omega),
      byteOf_eq_append 0b10#2 (start := 6) (len := 6) hn rfl (by bv_omega),
      byteOf_eq_append 0b10#2 (start := 0) (len := 6) hn rfl (by bv_omega)]
    rfl

/-! ### The round trip -/

/-- Settles O46: decoding is a left inverse of encoding. -/
theorem utf8RoundTrip : Obligations.Utf8RoundTrip :=
  ⟨utf8Decode_utf8Encode, fun _ _ h => Option.some.inj <| by
    rw [← utf8Decode_utf8Encode, h, utf8Decode_utf8Encode]⟩

/-! ### The text stages -/

/-- Settles O43: UTF8E has no check and no register of its own. -/
theorem utf8eDeliversTheEncoding : Obligations.Utf8eDeliversTheEncoding := fun s => exec_eq_effect .utf8e s

/-- Settles O44: the decoder answers a text exactly on that text's encoding. -/
theorem utf8dDeliversTheTextOrFaults : Obligations.Utf8dDeliversTheTextOrFaults := fun _ =>
  ⟨fun _ h => exec_utf8d_of_some (utf8Decode_eq_some_iff.2 h),
    fun h => exec_utf8d_of_none (utf8Decode_eq_none_iff.2 h)⟩

end Sys2Proof.Machine
end

section
/-!
PROOF. NORM (43 R150, R151): `OUT` is the source without alpha, and a grid operation does not tell that grid from its
source.
-/

namespace Sys2Proof.Machine

/-! ### The whole operation -/

/-- NORM under a good descriptor delivers the source without alpha (43 R150). -/
theorem exec_norm_of_shape (fmt : Fmt) {s : State} (hshape : s.opnd.src.length = s.w * s.h) :
    exec (.norm fmt) s
      = .next (deliver (outResult { w := s.w, h := s.h, px := s.opnd.src.map (rgb fmt) })
          (setDatapath { s.dp with i := s.w * s.h } (setN (s.w * s.h) s))) := by
  rw [exec_eq_effect, effect, normEffect, withDescriptor_good _ _ _ hshape rfl, normStage_eq, hshape]

theorem map_rgb_getElem? {fmt : Fmt} {src : List SrcElem} {i : Nat} {e : SrcElem} (he : src[i]? = some e) :
    (src.map (rgb fmt))[i]? = some (rgb fmt e) := by
  rw [List.getElem?_map, he, Option.map_some]

/-- Settles O41: the traversal writes each element's pixel and moves `I` alone. -/
theorem normDropsAlpha : Obligations.NormDropsAlpha := by
  intro fmt s hshape
  refine ⟨_, _, exec_norm_of_shape fmt hshape, rfl, rfl, rfl, (List.length_map _).trans hshape, ?_, ?_⟩
  · rintro i p rfl he
    exact map_rgb_getElem? he
  · rintro i p rfl he
    exact map_rgb_getElem? he

/-- A grid that NORM delivers is the source without alpha. -/
theorem px_of_normEffect {p : Params} {fmt : Fmt} {s : State} {g : Grid}
    (hout : (normEffect p fmt s).rslt.out = some g) : g.px = s.opnd.src.map (rgb fmt) := by
  unfold normEffect at hout
  rcases withDescriptor_cases p (normStage fmt) s with ⟨_, _, heq⟩ | ⟨_, heq⟩
  · rw [heq, normStage_eq] at hout
    obtain rfl := Option.some.inj hout
    rfl
  · rw [heq] at hout
    cases hout

/-! ### Operations on the grid without alpha -/

/-- The source without alpha, presented as a source with `FMT = 0` (43 R151). -/
def normalSource (fmt : Fmt) (src : List SrcElem) : List SrcElem := asSource (src.map (rgb fmt))

theorem normalSource_eq_map (fmt : Fmt) (src : List SrcElem) :
    normalSource fmt src = src.map fun e => .rgb (rgb fmt e) :=
  List.map_map

@[simp] theorem normalSource_length (fmt : Fmt) (src : List SrcElem) : (normalSource fmt src).length = src.length := by
  rw [normalSource_eq_map, List.length_map]

/-- It spells the same bytes (42 R126). -/
@[simp] theorem slotBytes_normalSource (fmt : Fmt) (src : List SrcElem) :
    slotBytes .rgb (normalSource fmt src) = slotBytes fmt src := by
  rw [normalSource_eq_map]
  exact List.map_map

/-- Embedding into it gives the same pixels (41 R108). -/
@[simp] theorem mapIdx_embedElement_normalSource (fmt : Fmt) (data : Bytes) (src : List SrcElem) :
    (normalSource fmt src).mapIdx (embedElement .rgb data) = src.mapIdx (embedElement fmt data) := by
  ext1 i
  rw [normalSource_eq_map, List.getElem?_mapIdx, List.getElem?_map, List.getElem?_mapIdx, Option.map_map]
  rfl

section
variable (p : Params) (fmt : Fmt) (s : State)

/-- Its descriptor is as good, so a grid operation has the same outcome if its stages have. -/
theorem observed_withDescriptor_normalSource (run run' : State → State)
    (hrun : observed (run' (withSource (normalSource fmt s.opnd.src) s)) = observed (run s)) :
    observed (withDescriptor p run' (withSource (normalSource fmt s.opnd.src) s))
      = observed (withDescriptor p run s) := by
  have hlen := normalSource_length fmt s.opnd.src
  rcases withDescriptor_cases p run s with ⟨hshape, hindex, heq⟩ | ⟨hbad, heq⟩
  · rw [heq, withDescriptor_good p run' (withSource (normalSource fmt s.opnd.src) s) (hlen.trans hshape) hindex, hrun]
  · rw [heq, withDescriptor_bad p run' (withSource (normalSource fmt s.opnd.src) s)
      (hbad.imp_left hlen.trans_ne)]
    rfl

/-- The EMBED stage has the same outcome. -/
theorem observed_embedStage_normalSource (data : Bytes) :
    observed (embedStage .rgb data (withSource (normalSource fmt s.opnd.src) s))
      = observed (embedStage fmt data s) := by
  simp only [observed_embedStage, withSource_opnd_src, withSource_w, withSource_h, mapIdx_embedElement_normalSource]

/-- So has every one of the four operations (43 R151). -/
theorem observed_effect_normalSource (op : Fmt → Instr)
    (hop : op ∈ [Instr.embed, Instr.encode, Instr.extract, Instr.decode]) :
    observed (effect p (op .rgb) (withSource (normalSource fmt s.opnd.src) s)) = observed (effect p (op fmt) s) := by
  simp only [List.mem_cons, List.not_mem_nil, or_false] at hop
  obtain rfl | rfl | rfl | rfl := hop
  · exact observed_withDescriptor_normalSource p fmt s _ _ (observed_embedStage_normalSource fmt s _)
  · exact observed_withDescriptor_normalSource p fmt s (encodeStages p fmt) (encodeStages p .rgb)
      (observed_embedStage_normalSource fmt s _)
  · refine observed_withDescriptor_normalSource p fmt s (extractDeliver fmt) (extractDeliver .rgb) ?_
    simp only [observed_extractDeliver, withSource_opnd_src, slotBytes_normalSource]
  · refine observed_withDescriptor_normalSource p fmt s (decodeStages p fmt) (decodeStages p .rgb) ?_
    simp only [observed_decodeStages, withSource_opnd_src, slotBytes_normalSource]

end

/-- Settles O42: the grid NORM delivers, presented again, is `normalSource`. -/
theorem alphaFormsEqualNormFirst : Obligations.AlphaFormsEqualNormFirst := by
  intro s t u v g op hop ht hout hu hv
  obtain rfl := (exec_next_iff _ _ _).1 ht
  obtain rfl := (exec_next_iff _ _ _).1 hu
  obtain rfl := (exec_next_iff _ _ _).1 hv
  rw [px_of_normEffect hout]
  exact (observed_effect_normalSource Config.params .rgba s op hop).symm

end Sys2Proof.Machine
end

section
/-!
PROOF. How operations end (30 R74; 60 R166, R171, R172, R176, R182): each operation with one of its own codes, the block
ready and the operand buffers untouched; the grid operations at the descriptor check or after it.
-/

namespace Sys2Proof.Machine

/-! ### An ended operation -/

/-- An operation started in `s` has ended in `t` with one of the codes `codes`: the block is ready for the next command,
and the operand buffers are the host's still (20 R41). -/
structure EndsIn (codes : List Byte) (s t : State) : Prop where
  status : t.status ∈ codes
  pending : t.pending = false
  opnd : t.opnd = s.opnd

/-- The end of an operation makes the block ready; its code is its status. -/
theorem endOperation_endsIn {codes : List Byte} {s u : State} (code : StatusCode) (r : Results)
    (hcode : code.code ∈ codes) (hopnd : u.opnd = s.opnd) : EndsIn codes s (endOperation code r u) :=
  ⟨hcode, rfl, hopnd⟩

/-! ### The stages of the grid operations -/

/-- The EMBED stage succeeds, or ends at the capacity check (41 R105). -/
theorem embedStage_endsIn (fmt : Fmt) (data : Bytes) (s : State) :
    EndsIn [0x01, 0x81] s (embedStage fmt data s) := by
  rcases embedStage_cases fmt data s with ⟨_, heq⟩ | ⟨_, heq⟩
  · rw [heq]; exact endOperation_endsIn .done _ (by decide) rfl
  · rw [heq]; exact endOperation_endsIn (.fault .capacityExceeded) _ (by decide) rfl

/-- EXTRACT succeeds once its descriptor is accepted (42 R130). -/
theorem extractDeliver_endsIn (fmt : Fmt) (s : State) : EndsIn [0x01] s (extractDeliver fmt s) := by
  rw [extractDeliver_eq]
  exact endOperation_endsIn .done _ (by decide) rfl

/-- The stages of DECODE answer a text, or "not watermarked" (42 R139). -/
theorem decodeStages_endsIn (p : Params) (fmt : Fmt) (s : State) :
    EndsIn [0x01, 0x02] s (decodeStages p fmt s) := by
  rcases decodeStages_cases p fmt s with ⟨_, _, _, _, heq⟩ | ⟨_, heq⟩
  · rw [heq, extractStage_eq]; exact endOperation_endsIn .done _ (by decide) rfl
  · rw [heq, extractStage_eq]; exact endOperation_endsIn .notWatermarked _ (by decide) rfl

/-- NORM succeeds once its descriptor is accepted (43 R150). -/
theorem normStage_endsIn (fmt : Fmt) (s : State) : EndsIn [0x01] s (normStage fmt s) := by
  rw [normStage_eq]
  exact endOperation_endsIn .done _ (by decide) rfl

/-! ### The descriptor check -/

/-- The descriptor check adds `BAD_DESCRIPTOR` to the codes of the stages (60 R171). -/
theorem withDescriptor_endsIn {codes : List Byte} {run : State → State} {s : State} (p : Params)
    (hrun : EndsIn codes s (run s)) : EndsIn (codes ++ [0x85]) s (withDescriptor p run s) := by
  rcases withDescriptor_cases p run s with ⟨_, _, heq⟩ | ⟨_, heq⟩
  · rw [heq]; exact ⟨List.mem_append_left _ hrun.status, hrun.pending, hrun.opnd⟩
  · rw [heq]; exact endOperation_endsIn (.fault .badDescriptor) _ (List.mem_append_right _ (by decide)) rfl

/-- Every grid operation is its stages behind the descriptor check, and no stage has `BAD_DESCRIPTOR` among its codes
(60 R171, R176). -/
theorem effect_of_takesGrid (p : Params) (i : Instr) (s : State) (hi : i.takesGrid = true) :
    ∃ run codes, effect p i s = withDescriptor p run s ∧ EndsIn codes s (run s) ∧ 0x85 ∉ codes
      ∧ outcomesOf i = codes ++ [0x85] := by
  cases i with
  | embed fmt => exact ⟨_, _, rfl, embedStage_endsIn fmt s.opnd.data s, by decide, rfl⟩
  | encode fmt => exact ⟨encodeStages p fmt, _, rfl, embedStage_endsIn fmt _ s, by decide, rfl⟩
  | extract fmt => exact ⟨_, _, rfl, extractDeliver_endsIn fmt s, by decide, rfl⟩
  | decode fmt => exact ⟨_, _, rfl, decodeStages_endsIn p fmt s, by decide, rfl⟩
  | norm fmt => exact ⟨_, _, rfl, normStage_endsIn fmt s, by decide, rfl⟩
  | cmp | dcmp | pack | unpk | utf8e | utf8d => cases hi

/-- A grid operation whose descriptor is refused takes the fault and does nothing else (60 R171, R176). -/
theorem effect_of_badDescriptor {p : Params} {i : Instr} {s : State} (hi : i.takesGrid = true)
    (hbad : s.opnd.src.length ≠ s.w * s.h ∨ fitsIndex p (s.w * s.h) = false) :
    effect p i s = raiseFault .badDescriptor s := by
  obtain ⟨run, _, heq, -⟩ := effect_of_takesGrid p i s hi
  exact heq.trans (withDescriptor_bad p run s hbad)

/-- A grid operation whose descriptor is accepted does not end in `BAD_DESCRIPTOR` (60 R172). -/
theorem effect_status_ne_badDescriptor {p : Params} {i : Instr} {s : State} (hi : i.takesGrid = true)
    (hshape : s.opnd.src.length = s.w * s.h) (hindex : fitsIndex p (s.w * s.h) = true) :
    (effect p i s).status ≠ 0x85 := by
  obtain ⟨run, codes, heq, hrun, hcodes, -⟩ := effect_of_takesGrid p i s hi
  rw [heq, withDescriptor_good p run s hshape hindex]
  exact ne_of_mem_of_not_mem hrun.status hcodes

/-- Settles O48: the two alternatives are those of the descriptor check. -/
theorem badDescriptorPrecedesTheStages : Obligations.BadDescriptorPrecedesTheStages := fun p _ s hi hbad =>
  effect_of_badDescriptor hi (hbad.imp_right (fitsIndex_eq_false_iff p (s.w * s.h)).2)

/-- Settles O49: an accepted descriptor leaves the codes of the stages; `exec` runs with the index width unbounded. -/
theorem descriptorThatFitsIsAccepted : Obligations.DescriptorThatFitsIsAccepted := by
  intro p i s hi hshape hfits
  refine ⟨effect_status_ne_badDescriptor hi hshape ((fitsIndex_eq_true_iff p _).2 hfits), fun t ht => ?_⟩
  rw [(exec_next_iff i s t).1 ht]
  exact effect_status_ne_badDescriptor hi hshape (fitsIndex_params _)

/-! ### Every operation -/

/-- Every operation ends with one of its own codes, at any parameters (30 R74, 60 R182). -/
theorem effect_endsIn (p : Params) (i : Instr) (s : State) : EndsIn (outcomesOf i) s (effect p i s) := by
  cases hi : i.takesGrid with
  | true =>
    obtain ⟨run, codes, heq, hrun, -, houtcomes⟩ := effect_of_takesGrid p i s hi
    rw [heq, houtcomes]
    exact withDescriptor_endsIn p hrun
  | false =>
    cases i with
    | cmp | pack | unpk | utf8e => exact endOperation_endsIn .done _ (by decide) rfl
    | dcmp =>
      simp only [effect, dcmpEffect]
      cases p.K.decompress s.opnd.data with
      | some plain => exact endOperation_endsIn .done _ (by decide) rfl
      | none => exact endOperation_endsIn (.fault .corruptStream) _ (by decide) rfl
    | utf8d =>
      simp only [effect, utf8dEffect]
      cases utf8Decode s.opnd.plain with
      | some t => exact endOperation_endsIn .done _ (by decide) rfl
      | none => exact endOperation_endsIn (.fault .invalidUtf8) _ (by decide) rfl
    | embed | encode | extract | decode | norm => cases hi

/-- Settles O5: `exec` answers the state in which `effect` ends. -/
theorem everyOperationEndsInOneOfItsOutcomes : Obligations.EveryOperationEndsInOneOfItsOutcomes := fun i s =>
  have hend := effect_endsIn Config.params i s
  ⟨_, exec_eq_effect i s, hend.pending, hend.status⟩

/-! ### Faults -/

/-- Under the invariant a state whose status records a fault holds no result (60 R166). -/
theorem rslt_of_faultBit {t : State} (hinv : t.Inv = true) (hfault : faultBit t.status = true) :
    t.rslt = Results.absent := by
  have hnotDone : t.status ≠ StatusCode.done.code := fun hdone => by
    rw [hdone] at hfault
    exact absurd hfault (by decide)
  rw [State.Inv, Bool.and_eq_true, Bool.and_eq_true] at hinv
  obtain ⟨⟨-, hresults⟩, -⟩ := hinv
  rw [resultsMatchStatus, if_neg hnotDone] at hresults
  exact of_decide_eq_true hresults

/-- Settles O50: every operation establishes the invariant, by which a fault has no result; the rest holds of every
end. -/
theorem faultsDeliverNothingButTheStatus : Obligations.FaultsDeliverNothingButTheStatus := by
  intro i s t ht hfault
  obtain rfl := (exec_next_iff i s t).1 ht
  have hend := effect_endsIn Config.params i s
  exact ⟨rslt_of_faultBit (effect_inv Config.params i s) hfault, hend.opnd, hend.pending⟩

end Sys2Proof.Machine
end

section
/-!
PROOF. What the block forgets (70 R190, R201): after reset all that came before it, and of a grid's dimensions
everything but their product.
-/

namespace Sys2Proof.Machine

/-! ### Reset -/

/-- Settles O7: a reset block holds no command, so its step is idle; and the next request overwrites all that its
operation reads, whether a reset came before it or not. -/
theorem resetAbandonsAndIsForgotten : Obligations.ResetAbandonsAndIsForgotten := fun s =>
  ⟨applyReset_status s, applyReset_rslt s, applyReset_pending s, applyReset_opnd s,
    step_idle _ (applyReset_pending s), fun r => outcomeDependsOnTheRequestAlone.2 r (applyReset s) s⟩

/-! ### The shape of a grid -/

/-- An outcome of a grid operation with the shape of `OUT` forgotten: `STATUS`, `RAW`, `TXTO` and the pixels of `OUT` in
their linear order. -/
def linearOutcome (o : Byte × Results) : Byte × Option Bytes × Option Text × Option (List Pixel) :=
  (o.1, o.2.raw, o.2.txto, o.2.out.map Grid.px)

/-- Of an `OUT` only the pixels are left. -/
@[simp] theorem linearOutcome_outResult (status : Byte) (g : Grid) :
    linearOutcome (status, outResult g) = (status, none, none, some g.px) := rfl

/-- A function of the two alternatives of the descriptor check is taken inside it. -/
theorem apply_checkDescriptor {α β : Type} (f : α → β) (p : Params) (s : State) (bad good : α) :
    f (checkDescriptor p s bad good) = checkDescriptor p s (f bad) (f good) := by
  simp only [checkDescriptor, apply_ite f]

/-- Two states with the same operand buffers and as many pixels, in whatever shape (70 R201). -/
structure SameLinearOrder (s t : State) : Prop where
  count : s.w * s.h = t.w * t.h
  opnd : s.opnd = t.opnd

section
variable {s t : State} (hst : SameLinearOrder s t) (p : Params)
include hst

/-- The descriptor check reads the product of the dimensions alone (60 R171, R172). -/
theorem SameLinearOrder.checkDescriptor_eq {α : Type} (bad good : α) :
    checkDescriptor p s bad good = checkDescriptor p t bad good := by
  simp only [checkDescriptor, hst.count, hst.opnd]

/-- A grid operation ends alike in both states if its stages do. -/
theorem SameLinearOrder.linearOutcome_withDescriptor_eq (run run' : State → State)
    (hrun : linearOutcome (observed (run s)) = linearOutcome (observed (run' t))) :
    linearOutcome (observed (withDescriptor p run s)) = linearOutcome (observed (withDescriptor p run' t)) := by
  simp only [observed_withDescriptor, apply_checkDescriptor linearOutcome, hst.checkDescriptor_eq, hrun]

/-- The EMBED stage compares its bytes with the number of pixels, and writes each pixel by its index (41 R106, R108). -/
theorem SameLinearOrder.linearOutcome_embedStage_eq (fmt : Fmt) (data : Bytes) :
    linearOutcome (observed (embedStage fmt data s)) = linearOutcome (observed (embedStage fmt data t)) := by
  simp only [observed_embedStage, apply_ite linearOutcome, linearOutcome_outResult, hst.count, hst.opnd]

/-- Every grid operation ends alike in both states, at any parameters. -/
theorem SameLinearOrder.linearOutcome_effect_eq {i : Instr} (hi : i.takesGrid = true) :
    linearOutcome (observed (effect p i s)) = linearOutcome (observed (effect p i t)) := by
  cases i with
  | embed fmt =>
    refine hst.linearOutcome_withDescriptor_eq p _ _ ?_
    rw [hst.opnd]
    exact hst.linearOutcome_embedStage_eq fmt _
  | encode fmt =>
    refine hst.linearOutcome_withDescriptor_eq p _ _ ?_
    rw [encodeStages, encodeStages, hst.opnd]
    exact hst.linearOutcome_embedStage_eq fmt _
  | extract fmt =>
    exact hst.linearOutcome_withDescriptor_eq p _ _ (by simp only [observed_extractDeliver, hst.opnd])
  | decode fmt =>
    exact hst.linearOutcome_withDescriptor_eq p _ _ (by simp only [observed_decodeStages, hst.opnd])
  | norm fmt =>
    refine hst.linearOutcome_withDescriptor_eq p _ _ ?_
    simp only [observed_normStage, linearOutcome_outResult, hst.opnd]
  | cmp | dcmp | pack | unpk | utf8e | utf8d => cases hi

end

/-- Settles O52: the four results compared are those of the outcome without its shape. -/
theorem onlyTheLinearOrderMatters : Obligations.OnlyTheLinearOrderMatters := by
  intro i s t s' t' hi hopnd hcount hs ht
  obtain rfl := (exec_next_iff i s s').1 hs
  obtain rfl := (exec_next_iff i t t').1 ht
  have hlinear := SameLinearOrder.linearOutcome_effect_eq ⟨hcount, hopnd⟩ Config.params hi
  simpa only [linearOutcome, observed, Prod.mk.injEq] using hlinear

end Sys2Proof.Machine
end
